-- ==== Sys2Proof/Word.lean ====
section
/-! DEFINITION. The machine words of the block: every register is 32 bits wide (R7). -/

namespace Sys2Proof

/-- A register word, a transaction word, or the write data of a bus write. -/
abbrev Word := BitVec 32

/-- One byte of a backing store. -/
abbrev Byte := BitVec 8

end Sys2Proof
end

