-- ==== Sys2Proof/Config.lean ====
section
/-! DEFINITION. What one implementation fixes: the parameter table of R6 as a type (its reference values stand in
Machine/Layout.lean), the number of registers of each block, and the free value of the model. -/

namespace Sys2Proof

/-- The number of registers of the MI: the words of its backing store that have a meaning of their own (R23). -/
abbrev Config.miWords : Nat := 4

/-- The number of registers of the VI: the words of its backing store that have a meaning of their own (R29). -/
abbrev Config.viWords : Nat := 14

/-- THE FREE VALUE: the word drawn by the n-th current-line read made while cyclesPerScanline is 0 (R219, 92 D10;
log 5). It has no body, so nothing can be proved of its value. -/
opaque Config.draw : Nat → Word

/-- The parameters the model takes (R6). They stand in `State.params`, so that a statement over all states is a statement
over all parameters (log 32). -/
structure Params where
  /-- `P_MI_BASE`. -/
  miBase : Nat
  /-- `P_VI_BASE`. -/
  viBase : Nat
  /-- The words of the MI backing store above its registers, so that `P_MI_LEN` is `Params.miLen` (log 14). -/
  miRawWords : Nat
  /-- The words of the VI backing store above its registers, so that `P_VI_LEN` is `Params.viLen` (log 14). -/
  viRawWords : Nat
  /-- `P_MI_VERSION`. -/
  miVersion : Word
  /-- `P_CLOCK_NTSC`. -/
  clockNtsc : Nat
  /-- `P_CLOCK_PAL`. -/
  clockPal : Nat
  /-- `P_CLOCK_MPAL`. -/
  clockMpal : Nat
  /-- `P_REFRESH_PAL`. -/
  refreshPal : Nat
  /-- `P_REFRESH_OTHER`. -/
  refreshOther : Nat
  /-- `P_TV_CODE` of PAL. -/
  tvPal : BitVec 8
  /-- `P_TV_CODE` of NTSC. -/
  tvNtsc : BitVec 8
  /-- `P_TV_CODE` of MPAL. -/
  tvMpal : BitVec 8
  /-- `P_UNTIL_NONE`. -/
  untilNone : Int
  /-- `P_SERRATE_BIT`. -/
  serrateBit : Nat
  /-- The low bit of `P_TYPE_FIELD`, a field of two bits. -/
  typeLow : Nat
  /-- `P_TYPE_32`. -/
  type32 : BitVec 2
deriving DecidableEq, Repr

/-- `P_MI_LEN`, in bytes: the registers and the undecoded words above them (R6, R67; log 14). -/
def Params.miLen (p : Params) : Nat := 4 * (Config.miWords + p.miRawWords)

/-- `P_VI_LEN`, in bytes: the registers and the undecoded words above them (R6, R67; log 14). -/
def Params.viLen (p : Params) : Nat := 4 * (Config.viWords + p.viRawWords)

end Sys2Proof
end

