-- ==== Sys2Proof/Syntax.lean ====
section
/-! DEFINITION. The transactions of the block: the raw form an agent presents (R100), and the 43 decoded
instructions, one constructor per row of opcode_table.json (R109). -/

namespace Sys2Proof

/-- The two controllers, each with its own register block (R2); the `U` field of a bus word (R101). -/
inductive Block where
  | mi
  | vi
deriving DecidableEq, Repr

/-- The form of a bus read, the `S` field: unsigned or two's complement (R65). -/
inductive ReadForm where
  | u32
  | s32
deriving DecidableEq, Repr

/-- The six interrupt sources, in the order of R27. -/
inductive Source where
  | sp
  | si
  | ai
  | vi
  | pi
  | dp
deriving DecidableEq, Repr

/-- The registers of the MI (R23). -/
inductive MiReg where
  | mode
  | version
  | intr
  | intrMask
deriving DecidableEq, Repr

/-- The registers of the VI (R29). -/
inductive ViReg where
  | control
  | dramAddr
  | hWidth
  | vIntr
  | current
  | burst
  | vSync
  | hSync
  | leap
  | hStart
  | vStart
  | vBurst
  | xScale
  | yScale
deriving DecidableEq, Repr

/-- A transaction as an agent presents it: the transaction word and its operand (R100). `data` is the write data D,
read by a bus write only; `cycles` is the count n, read by TICK only (DESIGN CHOICE, safe: log 2). -/
structure Transaction where
  tw : Word
  data : Word := 0
  cycles : Nat := 0
deriving DecidableEq, Repr

/-- The decoded instructions: one constructor per row of opcode_table.json. A read row matches both forms. -/
inductive Instr where
  | lwMiMode (form : ReadForm)
  | lwMiVersion (form : ReadForm)
  | lwMiIntr (form : ReadForm)
  | lwMiIntrMask (form : ReadForm)
  | lwViControl (form : ReadForm)
  | lwViDramAddr (form : ReadForm)
  | lwViHWidth (form : ReadForm)
  | lwViVIntr (form : ReadForm)
  | lwViCurrent (form : ReadForm)
  | lwViBurst (form : ReadForm)
  | lwViVSync (form : ReadForm)
  | lwViHSync (form : ReadForm)
  | lwViLeap (form : ReadForm)
  | lwViHStart (form : ReadForm)
  | lwViVStart (form : ReadForm)
  | lwViVBurst (form : ReadForm)
  | lwViXScale (form : ReadForm)
  | lwViYScale (form : ReadForm)
  | swMiMode (d : Word)
  | swMiVersion (d : Word)
  | swMiIntr (d : Word)
  | swMiIntrMask (d : Word)
  | swViControl (d : Word)
  | swViDramAddr (d : Word)
  | swViHWidth (d : Word)
  | swViVIntr (d : Word)
  | swViCurrent (d : Word)
  | swViBurst (d : Word)
  | swViVSync (d : Word)
  | swViHSync (d : Word)
  | swViLeap (d : Word)
  | swViHStart (d : Word)
  | swViVStart (d : Word)
  | swViVBurst (d : Word)
  | swViXScale (d : Word)
  | swViYScale (d : Word)
  | vbl
  | raise (src : Source)
  | clear (src : Source)
  | reset (tv : BitVec 8)
  | tick (n : Nat)
  | dump
  | quiet (q : Bool)
deriving DecidableEq, Repr

end Sys2Proof
end

