-- ==== Sys2Proof/Machine/Layout.lean ====
section
/-! DEFINITION. The layout of the block: the fields of a transaction word (R100 to R102), the parameters' reference
values (R6), the address windows and the bounds check (R60 to R62), the register offsets (R23, R29), the source bits
(R27) and the television standards (R291). -/

namespace Sys2Proof.Machine

/-- `K`, bits 31:30 (R100). -/
def fieldK (tw : Word) : BitVec 2 := tw.extractLsb' 30 2

/-- `U`, bit 29, as the block it selects (R101). -/
def fieldU (tw : Word) : Block := if tw.getLsbD 29 then .vi else .mi

/-- `W`, bits 28:27 (R101). -/
def fieldW (tw : Word) : BitVec 2 := tw.extractLsb' 27 2

/-- `S`, bit 26 (R101). -/
def fieldS (tw : Word) : Bool := tw.getLsbD 26

/-- The reserved bits 25:24 of a bus word (R101). -/
def fieldBusZero (tw : Word) : BitVec 2 := tw.extractLsb' 24 2

/-- `O`, bits 23:0 (R101). -/
def fieldO (tw : Word) : BitVec 24 := tw.extractLsb' 0 24

/-- `E`, bits 29:24 (R102). -/
def fieldE (tw : Word) : BitVec 6 := tw.extractLsb' 24 6

/-- The reserved bits 23:8 of an event word (R102). -/
def fieldEventZero (tw : Word) : BitVec 16 := tw.extractLsb' 8 16

/-- `A`, bits 7:0 (R102). -/
def fieldA (tw : Word) : BitVec 8 := tw.extractLsb' 0 8

/-- A bus read or write word. -/
def isBus (tw : Word) : Bool := fieldK tw == 0b00#2 || fieldK tw == 0b01#2

/-- A bus write word. -/
def isWrite (tw : Word) : Bool := fieldK tw == 0b01#2

/-- A collaborator event word. -/
def isEvent (tw : Word) : Bool := fieldK tw == 0b10#2

/-- The reference values of R6. PRESUMED, unsafe (the spec marks them general knowledge or its own choice): logs 9, 10,
13, 14 and 15. `clockNtsc`, `refreshPal` and `refreshOther` are the source's. -/
def referenceParams : Params where
  miBase := 0x04300000
  viBase := 0x04400000
  miRawWords := 0
  viRawWords := 0
  miVersion := 0x02020102#32
  clockNtsc := 48681812
  clockPal := 49656530
  clockMpal := 48628316
  refreshPal := 50
  refreshOther := 60
  tvPal := 0#8
  tvNtsc := 1#8
  tvMpal := 2#8
  untilNone := 0
  serrateBit := 6
  typeLow := 0
  type32 := 0b11#2

/-- `clockOf(tv)`: an unrecognized standard takes NTSC's clock (R291). -/
def clockOf (p : Params) (tv : BitVec 8) : Nat :=
  if tv = p.tvPal then p.clockPal
  else if tv = p.tvMpal then p.clockMpal
  else p.clockNtsc

/-- `refreshOf(tv)`: `P_REFRESH_PAL` for PAL, `P_REFRESH_OTHER` for all others (R291). -/
def refreshOf (p : Params) (tv : BitVec 8) : Nat :=
  if tv = p.tvPal then p.refreshPal else p.refreshOther

/-- `blk.base` (R60). -/
def blockBase (p : Params) : Block → Nat
  | .mi => p.miBase
  | .vi => p.viBase

/-- `blk.len`, in bytes (R60). -/
def blockLen (p : Params) : Block → Nat
  | .mi => p.miLen
  | .vi => p.viLen

/-- The two windows share no address, as the reference windows do not. -/
def windowsApart (p : Params) : Bool :=
  decide (p.miBase + p.miLen ≤ p.viBase) || decide (p.viBase + p.viLen ≤ p.miBase)

/-- The bus address of an offset in a window. -/
def busAddress (p : Params) (b : Block) (o : Int) : Int :=
  blockBase p b + o

/-- Address translation: the offset is the address less the base, an integer that may be negative (R61). -/
def busOffset (p : Params) (b : Block) (addr : Int) : Int :=
  addr - blockBase p b

/-- The bounds and alignment check of an access of `n` bytes at offset `o` (R62). -/
def inBounds (p : Params) (b : Block) (o : Int) (n : Nat) : Bool :=
  decide (0 ≤ o) && decide (o + n ≤ blockLen p b) && decide (o % 4 = 0)

/-- The MI registers, in the order of their offsets. -/
def miRegs : List MiReg :=
  [.mode, .version, .intr, .intrMask]

/-- The byte offset of an MI register (R23; PRESUMED, unsafe: log 11). -/
def miOffset : MiReg → Nat
  | .mode => 0x00
  | .version => 0x04
  | .intr => 0x08
  | .intrMask => 0x0C

/-- The VI registers, in the order of their offsets. -/
def viRegs : List ViReg :=
  [.control, .dramAddr, .hWidth, .vIntr, .current, .burst, .vSync, .hSync, .leap, .hStart, .vStart, .vBurst,
    .xScale, .yScale]

/-- The byte offset of a VI register (R29; PRESUMED, unsafe: log 11). -/
def viOffset : ViReg → Nat
  | .control => 0x00
  | .dramAddr => 0x04
  | .hWidth => 0x08
  | .vIntr => 0x0C
  | .current => 0x10
  | .burst => 0x14
  | .vSync => 0x18
  | .hSync => 0x1C
  | .leap => 0x20
  | .hStart => 0x24
  | .vStart => 0x28
  | .vBurst => 0x2C
  | .xScale => 0x30
  | .yScale => 0x34

/-- The MI register decoded at an offset; none where the offset is undecoded (R67). -/
def miRegAt (o : Nat) : Option MiReg :=
  miRegs.find? (fun r => miOffset r == o)

/-- The VI register decoded at an offset; none where the offset is undecoded (R67). -/
def viRegAt (o : Nat) : Option ViReg :=
  viRegs.find? (fun r => viOffset r == o)

/-- The six sources, in the order of R27. -/
def sources : List Source :=
  [.sp, .si, .ai, .vi, .pi, .dp]

/-- The index of a source: its bit in the pending and mask vectors (R27; PRESUMED, unsafe: log 12). -/
def sourceIndex : Source → Nat
  | .sp => 0
  | .si => 1
  | .ai => 2
  | .vi => 3
  | .pi => 4
  | .dp => 5

/-- The source an index names; none for 6 and 7 (R102). -/
def sourceAt (i : Nat) : Option Source :=
  sources.find? (fun s => sourceIndex s == i)

/-- The one-bit word of a source, `1 << i` (R152, R153). -/
def sourceBit (s : Source) : Word :=
  1#32 <<< sourceIndex s

end Sys2Proof.Machine
end

