-- ==== Sys2Proof/WellFormed.lean ====
section
/-! DEFINITION. Which presented transactions are well formed: the named checks of R103 and R105, and the operands of
R100. The terms of `Instr` need no check: their types admit no ill-formed term, and every one of them encodes to a
well-formed transaction. -/

namespace Sys2Proof

open Machine

/-- `K` is not the reserved kind. -/
def kindOk (t : Transaction) : Bool := fieldK t.tw != 0b11#2

/-- Bits 25:24 of a bus word are 0. -/
def busZeroOk (t : Transaction) : Bool := !isBus t.tw || fieldBusZero t.tw == 0

/-- `S` is 0 in a bus write. -/
def writeFormOk (t : Transaction) : Bool := !isWrite t.tw || !fieldS t.tw

/-- A bus access is 4 bytes wide (R64). -/
def widthOk (t : Transaction) : Bool := !isBus t.tw || fieldW t.tw == 0b10#2

/-- A bus access is in bounds (R62). -/
def boundsOk (p : Params) (t : Transaction) : Bool := !isBus t.tw || inBounds p (fieldU t.tw) (fieldO t.tw).toNat 4

/-- Bits 23:8 of an event word are 0. -/
def eventZeroOk (t : Transaction) : Bool := !isEvent t.tw || fieldEventZero t.tw == 0

/-- `E` is one of 0x01 to 0x07. -/
def eventCodeOk (t : Transaction) : Bool := !isEvent t.tw || (decide (1 ≤ (fieldE t.tw).toNat) && decide ((fieldE t.tw).toNat ≤ 7))

/-- The argument bits that must be 0 are 0 (R102): all for VBL, TICK and DUMP; 7:3 for RAISE and CLEAR; 7:1 for QUIET;
none for RESET. -/
def eventArgOk (t : Transaction) : Bool :=
  !isEvent t.tw ||
    match (fieldE t.tw).toNat with
    | 1 | 5 | 6 => fieldA t.tw == 0
    | 2 | 3 => (fieldA t.tw).extractLsb' 3 5 == 0
    | 7 => (fieldA t.tw).extractLsb' 1 7 == 0
    | _ => true

/-- The source index of RAISE and CLEAR is below 6 (R105). -/
def sourceOk (t : Transaction) : Bool :=
  !isEvent t.tw || !(fieldE t.tw == 2 || fieldE t.tw == 3) || decide (((fieldA t.tw).extractLsb' 0 3).toNat < 6)

/-- Write data stands beside a bus write only (R100). -/
def dataOk (t : Transaction) : Bool := isWrite t.tw || t.data == 0

/-- A cycle count stands beside TICK only (R100). -/
def cyclesOk (t : Transaction) : Bool := (isEvent t.tw && fieldE t.tw == 5) || t.cycles == 0

/-- The transaction word passes every check of R103. -/
def Transaction.wordWellFormed (p : Params) (t : Transaction) : Bool :=
  kindOk t && busZeroOk t && writeFormOk t && widthOk t && boundsOk p t && eventZeroOk t && eventCodeOk t &&
    eventArgOk t && sourceOk t

/-- The whole transaction is well formed: its word, and no operand beside a word that takes none. -/
def Transaction.wellFormed (p : Params) (t : Transaction) : Bool :=
  t.wordWellFormed p && dataOk t && cyclesOk t

end Sys2Proof
end

