-- ==== Sys2Proof/Decode.lean ====
section
/-! DEFINITION. The decoder (R103 to R105, R265), total on every presented transaction; the encoder, written from the
same tables (R100 to R102, R107); and the opcode map (R109). -/

namespace Sys2Proof

open Machine

/-- Why the decoder turns a transaction away, by the spec's names (R103). -/
inductive Reject where
  /-- A reserved word (R105). -/
  | reservedTransaction
  /-- A bus access of 1, 2 or 8 bytes (R64). -/
  | unsupportedWidth
  /-- `BoundsError(addr, n)` (R260). -/
  | boundsError (addr : Int) (n : Nat)
  /-- RAISE or CLEAR with index 6 or 7 (R105). -/
  | badSource
deriving DecidableEq, Repr

/-- What a transaction decodes to: a row of the opcode table, or the raw access of an undecoded in-bounds offset,
which no row names (R144, R150, R205, R206; log 22). -/
inductive Decoded where
  | instr (i : Instr)
  | rawRead (b : Block) (o : Nat) (form : ReadForm)
  | rawWrite (b : Block) (o : Nat) (d : Word)
deriving DecidableEq, Repr

/-- The row of an MI read. -/
def miRead (form : ReadForm) : MiReg → Instr
  | .mode => .lwMiMode form
  | .version => .lwMiVersion form
  | .intr => .lwMiIntr form
  | .intrMask => .lwMiIntrMask form

/-- The row of an MI write. -/
def miWrite (d : Word) : MiReg → Instr
  | .mode => .swMiMode d
  | .version => .swMiVersion d
  | .intr => .swMiIntr d
  | .intrMask => .swMiIntrMask d

/-- The row of a VI read. -/
def viRead (form : ReadForm) : ViReg → Instr
  | .control => .lwViControl form
  | .dramAddr => .lwViDramAddr form
  | .hWidth => .lwViHWidth form
  | .vIntr => .lwViVIntr form
  | .current => .lwViCurrent form
  | .burst => .lwViBurst form
  | .vSync => .lwViVSync form
  | .hSync => .lwViHSync form
  | .leap => .lwViLeap form
  | .hStart => .lwViHStart form
  | .vStart => .lwViVStart form
  | .vBurst => .lwViVBurst form
  | .xScale => .lwViXScale form
  | .yScale => .lwViYScale form

/-- The row of a VI write. -/
def viWrite (d : Word) : ViReg → Instr
  | .control => .swViControl d
  | .dramAddr => .swViDramAddr d
  | .hWidth => .swViHWidth d
  | .vIntr => .swViVIntr d
  | .current => .swViCurrent d
  | .burst => .swViBurst d
  | .vSync => .swViVSync d
  | .hSync => .swViHSync d
  | .leap => .swViLeap d
  | .hStart => .swViHStart d
  | .vStart => .swViVStart d
  | .vBurst => .swViVBurst d
  | .xScale => .swViXScale d
  | .yScale => .swViYScale d

/-- The row an in-bounds read selects (R103). -/
def selectRead (b : Block) (o : Nat) (form : ReadForm) : Decoded :=
  match b with
  | .mi => ((miRegAt o).map (fun r => Decoded.instr (miRead form r))).getD (.rawRead .mi o form)
  | .vi => ((viRegAt o).map (fun r => Decoded.instr (viRead form r))).getD (.rawRead .vi o form)

/-- The row an in-bounds write selects (R103). -/
def selectWrite (b : Block) (o : Nat) (d : Word) : Decoded :=
  match b with
  | .mi => ((miRegAt o).map (fun r => Decoded.instr (miWrite d r))).getD (.rawWrite .mi o d)
  | .vi => ((viRegAt o).map (fun r => Decoded.instr (viWrite d r))).getD (.rawWrite .vi o d)

/-- A bus word, in the order of R103: reserved bits, width, bounds, row. -/
def decodeBus (p : Params) (t : Transaction) : Except Reject Decoded :=
  if fieldBusZero t.tw ≠ 0 ∨ (isWrite t.tw = true ∧ fieldS t.tw = true) then .error .reservedTransaction
  else if fieldW t.tw ≠ 0b10#2 then .error .unsupportedWidth
  else
    let b := fieldU t.tw
    let addr := busAddress p b (fieldO t.tw).toNat
    let o := busOffset p b addr
    if inBounds p b o 4 = false then .error (.boundsError addr 4)
    else if isWrite t.tw then .ok (selectWrite b o.toNat t.data)
    else .ok (selectRead b o.toNat (if fieldS t.tw then .s32 else .u32))

/-- RAISE or CLEAR: bits 7:3 of `A` must be 0, and `A[2:0]` names one of the six sources (R102). -/
def decodeSource (a : BitVec 8) (mk : Source → Instr) : Except Reject Decoded :=
  if a.extractLsb' 3 5 ≠ 0 then .error .reservedTransaction
  else
    match sourceAt (a.extractLsb' 0 3).toNat with
    | some src => .ok (.instr (mk src))
    | none => .error .badSource

/-- An event whose `A` must be 0 (R102). -/
def decodePlain (a : BitVec 8) (i : Instr) : Except Reject Decoded :=
  if a = 0 then .ok (.instr i) else .error .reservedTransaction

/-- An event word (R102, R103). -/
def decodeEvent (t : Transaction) : Except Reject Decoded :=
  let a := fieldA t.tw
  if fieldEventZero t.tw ≠ 0 then .error .reservedTransaction
  else
    match (fieldE t.tw).toNat with
    | 1 => decodePlain a .vbl
    | 2 => decodeSource a .raise
    | 3 => decodeSource a .clear
    | 4 => .ok (.instr (.reset a))
    | 5 => decodePlain a (.tick t.cycles)
    | 6 => decodePlain a .dump
    | 7 => if a.extractLsb' 1 7 = 0 then .ok (.instr (.quiet (a.getLsbD 0))) else .error .reservedTransaction
    | _ => .error .reservedTransaction

/-- The decoder (R103); the parameters fix which offsets are in bounds. -/
def decode (p : Params) (t : Transaction) : Except Reject Decoded :=
  if fieldK t.tw = 0b11#2 then .error .reservedTransaction
  else if isBus t.tw then decodeBus p t
  else decodeEvent t

/-- A transaction laid out as opcode_table.json numbers the bits: the word in bits 31:0, an operand above it. -/
def Transaction.ofBits (nbits w : Nat) : Transaction :=
  let v := w % 2 ^ nbits
  { tw := BitVec.ofNat 32 v, data := BitVec.ofNat 32 (v >>> 32), cycles := v >>> 32 }

/-- The instruction the decoder reads from a row's bits, with the reference parameters; none where it rejects. -/
def decodeTableWord (nbits w : Nat) : Option Instr :=
  match decode referenceParams (Transaction.ofBits nbits w) with
  | .ok (.instr i) => some i
  | _ => none

/-- The bus read word of a row (R101): K = 00, W = 10. -/
def readWord (b : Block) (form : ReadForm) (o : Nat) : Word :=
  0b00#2 ++ (if b = .vi then 1#1 else 0#1) ++ 0b10#2 ++ (if form = .s32 then 1#1 else 0#1) ++ 0#2 ++ BitVec.ofNat 24 o

/-- The bus write word of a row (R101): K = 01, W = 10, S = 0. -/
def writeWord (b : Block) (o : Nat) : Word :=
  0b01#2 ++ (if b = .vi then 1#1 else 0#1) ++ 0b10#2 ++ 0#1 ++ 0#2 ++ BitVec.ofNat 24 o

/-- The event word of a row (R102): K = 10. -/
def eventWord (e : BitVec 6) (a : BitVec 8) : Word :=
  0b10#2 ++ e ++ 0#16 ++ a

/-- The bus read transaction of an MI register. -/
def encodeMiRead (r : MiReg) (form : ReadForm) : Transaction := { tw := readWord .mi form (miOffset r) }

/-- The bus read transaction of a VI register. -/
def encodeViRead (r : ViReg) (form : ReadForm) : Transaction := { tw := readWord .vi form (viOffset r) }

/-- The bus write transaction of an MI register. -/
def encodeMiWrite (r : MiReg) (d : Word) : Transaction := { tw := writeWord .mi (miOffset r), data := d }

/-- The bus write transaction of a VI register. -/
def encodeViWrite (r : ViReg) (d : Word) : Transaction := { tw := writeWord .vi (viOffset r), data := d }

/-- The encoder: the transaction of an instruction (R100 to R102, R107). -/
def encode : Instr → Transaction
  | .lwMiMode form => encodeMiRead .mode form
  | .lwMiVersion form => encodeMiRead .version form
  | .lwMiIntr form => encodeMiRead .intr form
  | .lwMiIntrMask form => encodeMiRead .intrMask form
  | .lwViControl form => encodeViRead .control form
  | .lwViDramAddr form => encodeViRead .dramAddr form
  | .lwViHWidth form => encodeViRead .hWidth form
  | .lwViVIntr form => encodeViRead .vIntr form
  | .lwViCurrent form => encodeViRead .current form
  | .lwViBurst form => encodeViRead .burst form
  | .lwViVSync form => encodeViRead .vSync form
  | .lwViHSync form => encodeViRead .hSync form
  | .lwViLeap form => encodeViRead .leap form
  | .lwViHStart form => encodeViRead .hStart form
  | .lwViVStart form => encodeViRead .vStart form
  | .lwViVBurst form => encodeViRead .vBurst form
  | .lwViXScale form => encodeViRead .xScale form
  | .lwViYScale form => encodeViRead .yScale form
  | .swMiMode d => encodeMiWrite .mode d
  | .swMiVersion d => encodeMiWrite .version d
  | .swMiIntr d => encodeMiWrite .intr d
  | .swMiIntrMask d => encodeMiWrite .intrMask d
  | .swViControl d => encodeViWrite .control d
  | .swViDramAddr d => encodeViWrite .dramAddr d
  | .swViHWidth d => encodeViWrite .hWidth d
  | .swViVIntr d => encodeViWrite .vIntr d
  | .swViCurrent d => encodeViWrite .current d
  | .swViBurst d => encodeViWrite .burst d
  | .swViVSync d => encodeViWrite .vSync d
  | .swViHSync d => encodeViWrite .hSync d
  | .swViLeap d => encodeViWrite .leap d
  | .swViHStart d => encodeViWrite .hStart d
  | .swViVStart d => encodeViWrite .vStart d
  | .swViVBurst d => encodeViWrite .vBurst d
  | .swViXScale d => encodeViWrite .xScale d
  | .swViYScale d => encodeViWrite .yScale d
  | .vbl => { tw := eventWord 1 0 }
  | .raise src => { tw := eventWord 2 (BitVec.ofNat 8 (sourceIndex src)) }
  | .clear src => { tw := eventWord 3 (BitVec.ofNat 8 (sourceIndex src)) }
  | .reset tv => { tw := eventWord 4 tv }
  | .tick n => { tw := eventWord 5 0, cycles := n }
  | .dump => { tw := eventWord 6 0 }
  | .quiet q => { tw := eventWord 7 (if q then 1 else 0) }

/-- The transaction of whatever a transaction decodes to, the raw accesses included (R101). -/
def encodeDecoded : Decoded → Transaction
  | .instr i => encode i
  | .rawRead b o form => { tw := readWord b form o }
  | .rawWrite b o d => { tw := writeWord b o, data := d }

/-- A row of the opcode map: a word selects it when the masked word is the pattern (R109). -/
structure Row where
  mnemonic : String
  pattern : Word
  mask : Word
deriving DecidableEq, Repr

/-- A word selects a row. -/
def Row.selects (r : Row) (tw : Word) : Bool := tw &&& r.mask == r.pattern

/-- The MI rows of opcode_table.json. -/
def miRows : List Row :=
  [⟨"LW_MI.MODE", 0x10000000, 0xFBFFFFFF⟩, ⟨"LW_MI.VERSION", 0x10000004, 0xFBFFFFFF⟩,
    ⟨"LW_MI.INTR", 0x10000008, 0xFBFFFFFF⟩, ⟨"LW_MI.INTR_MASK", 0x1000000C, 0xFBFFFFFF⟩,
    ⟨"SW_MI.MODE", 0x50000000, 0xFFFFFFFF⟩, ⟨"SW_MI.VERSION", 0x50000004, 0xFFFFFFFF⟩,
    ⟨"SW_MI.INTR", 0x50000008, 0xFFFFFFFF⟩, ⟨"SW_MI.INTR_MASK", 0x5000000C, 0xFFFFFFFF⟩]

/-- The VI read rows of opcode_table.json. -/
def viReadRows : List Row :=
  [⟨"LW_VI.CONTROL", 0x30000000, 0xFBFFFFFF⟩, ⟨"LW_VI.DRAM_ADDR", 0x30000004, 0xFBFFFFFF⟩,
    ⟨"LW_VI.H_WIDTH", 0x30000008, 0xFBFFFFFF⟩, ⟨"LW_VI.V_INTR", 0x3000000C, 0xFBFFFFFF⟩,
    ⟨"LW_VI.CURRENT", 0x30000010, 0xFBFFFFFF⟩, ⟨"LW_VI.BURST", 0x30000014, 0xFBFFFFFF⟩,
    ⟨"LW_VI.V_SYNC", 0x30000018, 0xFBFFFFFF⟩, ⟨"LW_VI.H_SYNC", 0x3000001C, 0xFBFFFFFF⟩,
    ⟨"LW_VI.LEAP", 0x30000020, 0xFBFFFFFF⟩, ⟨"LW_VI.H_START", 0x30000024, 0xFBFFFFFF⟩,
    ⟨"LW_VI.V_START", 0x30000028, 0xFBFFFFFF⟩, ⟨"LW_VI.V_BURST", 0x3000002C, 0xFBFFFFFF⟩,
    ⟨"LW_VI.X_SCALE", 0x30000030, 0xFBFFFFFF⟩, ⟨"LW_VI.Y_SCALE", 0x30000034, 0xFBFFFFFF⟩]

/-- The VI write rows of opcode_table.json. -/
def viWriteRows : List Row :=
  [⟨"SW_VI.CONTROL", 0x70000000, 0xFFFFFFFF⟩, ⟨"SW_VI.DRAM_ADDR", 0x70000004, 0xFFFFFFFF⟩,
    ⟨"SW_VI.H_WIDTH", 0x70000008, 0xFFFFFFFF⟩, ⟨"SW_VI.V_INTR", 0x7000000C, 0xFFFFFFFF⟩,
    ⟨"SW_VI.CURRENT", 0x70000010, 0xFFFFFFFF⟩, ⟨"SW_VI.BURST", 0x70000014, 0xFFFFFFFF⟩,
    ⟨"SW_VI.V_SYNC", 0x70000018, 0xFFFFFFFF⟩, ⟨"SW_VI.H_SYNC", 0x7000001C, 0xFFFFFFFF⟩,
    ⟨"SW_VI.LEAP", 0x70000020, 0xFFFFFFFF⟩, ⟨"SW_VI.H_START", 0x70000024, 0xFFFFFFFF⟩,
    ⟨"SW_VI.V_START", 0x70000028, 0xFFFFFFFF⟩, ⟨"SW_VI.V_BURST", 0x7000002C, 0xFFFFFFFF⟩,
    ⟨"SW_VI.X_SCALE", 0x70000030, 0xFFFFFFFF⟩, ⟨"SW_VI.Y_SCALE", 0x70000034, 0xFFFFFFFF⟩]

/-- The event rows of opcode_table.json. -/
def eventRows : List Row :=
  [⟨"VBL", 0x81000000, 0xFFFFFFFF⟩, ⟨"RAISE", 0x82000000, 0xFFFFFFF8⟩, ⟨"CLEAR", 0x83000000, 0xFFFFFFF8⟩,
    ⟨"RESET", 0x84000000, 0xFFFFFF00⟩, ⟨"TICK", 0x85000000, 0xFFFFFFFF⟩, ⟨"DUMP", 0x86000000, 0xFFFFFFFF⟩,
    ⟨"QUIET", 0x87000000, 0xFFFFFFFE⟩]

/-- The opcode map, all 43 rows (R109). -/
def opcodeRows : List Row :=
  miRows ++ viReadRows ++ viWriteRows ++ eventRows

end Sys2Proof
end

