-- ==== Sys2Proof/Machine/State.lean ====
section
/-! DEFINITION. The state of the block (R20), with the outputs of the last step and the transactions still to come; the
reasons a transaction fails (R260 to R262); the state after reset (R43, R290). -/

namespace Sys2Proof.Machine

/-- The faults of the spec. A fault ends one transaction and not the machine (R264): it is recorded in `State.outcome`
by `State.takeFault`, and the step answers a next state (log 4). -/
inductive Fault where
  /-- Raised by the decoder and by every register-block operation for an access out of bounds or unaligned (R62, R120,
  R260). Safe: the access has no effect. -/
  | boundsError (addr : Int) (n : Nat)
  /-- Raised by the arm decision and by the VBL handler when a callback would be scheduled with cpvb = 0 (R262).
  Safe: the whole transaction is undone (log 18). -/
  | zeroFramePeriod
deriving DecidableEq, Repr

/-- The refusals of the spec, each with the transaction word (R261). A refusal ends one transaction and not the machine
(R264): it is recorded in `State.outcome` by `State.takeRefusal`, and the step answers a next state (log 4). -/
inductive Refusal where
  /-- Raised by the decoder for a reserved word (R105). Safe: no effect (log 19). -/
  | reservedTransaction (tw : Word)
  /-- Raised by the decoder for a bus access of 1, 2 or 8 bytes (R64). Safe: no effect (log 19). -/
  | unsupportedWidth (tw : Word)
  /-- Raised by the decoder for RAISE or CLEAR with index 6 or 7 (R105). Safe: no effect (log 19). -/
  | badSource (tw : Word)
  /-- Raised by a VBL transaction with no callback pending (R220). Safe: no effect (log 19). -/
  | noPendingVbl (tw : Word)
  /-- An instruction without a meaning. Raised by nothing: every arm of `exec` has its meaning. Safe. -/
  | notModelled (mnemonic : String)
deriving DecidableEq, Repr

/-- Why a transaction is cut short: a fault or a refusal (R11). -/
inductive Abort where
  | fault (r : Fault)
  | refused (r : Refusal)
deriving DecidableEq, Repr

/-- What a bus read returns: 32 bits, and the form they are read in (R65). -/
structure ReadResult where
  form : ReadForm
  word : Word
deriving DecidableEq, Repr

/-- The outcome of the last step (R11): none presented, ok with the value of a read, fault, or refused (log 3). -/
inductive TxnOutcome where
  | idle
  | ok (read : Option ReadResult)
  | fault (r : Fault)
  | refused (r : Refusal)
deriving DecidableEq, Repr

/-- The diagnostic events (R246, R247). -/
inductive Diag where
  /-- A declined arm, with L and V (R212). -/
  | armDeclined (interruptLine syncValue : Word)
  /-- A write of an undecoded in-bounds offset (R150, R205). -/
  | unexpectedWrite (b : Block) (o : Nat) (d : Word)
  /-- The diagnostic dump: both stores and the two scale factors (R247). -/
  | dump (mi vi : List Word) (xScale yScale : Rat)
deriving DecidableEq, Repr

/-- The events a transaction emits to the collaborators (R10). -/
inductive Event where
  /-- The interrupt line is to be re-evaluated (R145). -/
  | notify
  /-- The frame is handed to the presentation sink: DRAM_ADDR, H_WIDTH, CONTROL (R243). -/
  | present (dramAddr hWidth control : Word)
  /-- The cooperative yield to the host (R244). -/
  | yield
  /-- A diagnostic (R246). -/
  | diag (d : Diag)
  /-- `Schedule(VBL, n)`: a one-shot VBL callback is requested (R240). -/
  | schedule (afterCycles : Nat)
deriving DecidableEq, Repr

/-- The whole state: the tuple of R20, the parameters of R6 (log 32), and the model's own fields (logs 1, 3, 5). -/
structure State where
  /-- The parameters the model takes (R6). No transaction writes them (log 32). -/
  params : Params
  /-- The registers of `MI.store` (R23). -/
  mi : Vector Word Config.miWords
  /-- The registers of `VI.store` (R29). -/
  vi : Vector Word Config.viWords
  /-- The words of `MI.store` above its registers, `params.miRawWords` of them (R67; log 14). -/
  miRaw : List Word
  /-- The words of `VI.store` above its registers, `params.viRawWords` of them (R67; log 14). -/
  viRaw : List Word
  /-- `VI.clockHz` (R35). -/
  clockHz : Nat
  /-- `VI.refreshRateHz` (R35). -/
  refreshRateHz : Nat
  /-- `VI.cps`, cycles per scanline (R36). -/
  cps : Nat
  /-- `VI.cpvb`, cycles per vertical blank (R36). -/
  cpvb : Nat
  /-- `VI.fieldParity` (R37). -/
  fieldParity : BitVec 1
  /-- `sched.pending` (R40). -/
  schedPending : Bool
  /-- `sched.countdown` (R40). -/
  schedCountdown : Int
  /-- The diagnostic quiet flag (R41). -/
  quiet : Bool
  /-- The reference CPU's last-seen line (R42). -/
  cpuLine : Bool
  /-- The sticky fault flag (R41). -/
  faulted : Bool
  /-- The sticky refusal flag (R41). -/
  refused : Bool
  /-- The model's own: how many free words have been drawn (log 5). -/
  draws : Nat
  /-- The model's own: the transactions presented and not yet executed, oldest first (log 1). -/
  input : List Transaction
  /-- The model's own: the events of the last step, in order (log 3). -/
  events : List Event
  /-- The model's own: the outcome of the last step (log 3). -/
  outcome : TxnOutcome
deriving DecidableEq, Repr

/-- The state at construction with parameters and a television standard (R43, R290); the sticky flags are false (R43), and the model's
own fields are empty (log 8). -/
def State.construct (p : Params) (tv : BitVec 8) : State where
  params := p
  mi := #v[0, p.miVersion, 0, 0]
  vi := Vector.replicate Config.viWords 0
  miRaw := List.replicate p.miRawWords 0
  viRaw := List.replicate p.viRawWords 0
  clockHz := clockOf p tv
  refreshRateHz := refreshOf p tv
  cps := 0
  cpvb := 0
  fieldParity := 0
  schedPending := false
  schedCountdown := 0
  quiet := false
  cpuLine := false
  faulted := false
  refused := false
  draws := 0
  input := []
  events := []
  outcome := .idle

/-- The machine right after power-on: construction with the reference parameters and the NTSC standard (DESIGN CHOICE,
unsafe: log 6). -/
def State.reset : State :=
  State.construct referenceParams referenceParams.tvNtsc

end Sys2Proof.Machine
end

