-- ==== Sys2Proof/Machine/RegisterBlock.lean ====
section
/-! DEFINITION. The register blocks: the words of the two backing stores and the bounds-checked operations the
controllers are built on (R120 to R126). No other file reads or writes the fields of the stores, but for reset. -/

namespace Sys2Proof.Machine

/-- A backing store, whole: the registers, then the undecoded words above them (R23, R29, R67). -/
def State.store (b : Block) (s : State) : List Word :=
  match b with
  | .mi => s.mi.toList ++ s.miRaw
  | .vi => s.vi.toList ++ s.viRaw

/-- The i-th word of a backing store: a register, or an undecoded word above the registers. -/
def State.word (b : Block) (i : Nat) (s : State) : Word :=
  match b with
  | .mi => s.mi[i]?.getD (s.miRaw[i - Config.miWords]?.getD 0)
  | .vi => s.vi[i]?.getD (s.viRaw[i - Config.viWords]?.getD 0)

/-- A backing store with its i-th word replaced. -/
def State.setWord (b : Block) (i : Nat) (v : Word) (s : State) : State :=
  match b with
  | .mi =>
    { s with
      mi := s.mi.setIfInBounds i v
      miRaw := if i < Config.miWords then s.miRaw else s.miRaw.set (i - Config.miWords) v }
  | .vi =>
    { s with
      vi := s.vi.setIfInBounds i v
      viRaw := if i < Config.viWords then s.viRaw else s.viRaw.set (i - Config.viWords) v }

/-- The stored word of an MI register. -/
def State.miReg (r : MiReg) (s : State) : Word :=
  s.word .mi (miOffset r / 4)

/-- The stored word of a VI register. -/
def State.viReg (r : ViReg) (s : State) : Word :=
  s.word .vi (viOffset r / 4)

/-- An MI register's stored word replaced. -/
def State.setMiReg (r : MiReg) (v : Word) (s : State) : State :=
  s.setWord .mi (miOffset r / 4) v

/-- A VI register's stored word replaced. -/
def State.setViReg (r : ViReg) (v : Word) (s : State) : State :=
  s.setWord .vi (viOffset r / 4) v

/-- `RB.check` (R120). -/
def rbCheck (p : Params) (b : Block) (o : Int) : Except Abort Unit :=
  if inBounds p b o 4 then .ok () else .error (.fault (.boundsError (busAddress p b o) 4))

/-- `RB.readWord` (R121). -/
def rbReadWord (b : Block) (o : Int) (s : State) : Except Abort Word := do
  rbCheck s.params b o
  return s.word b (o.toNat / 4)

/-- `RB.writeWord` (R122). -/
def rbWriteWord (b : Block) (o : Int) (v : Word) (s : State) : Except Abort State := do
  rbCheck s.params b o
  return s.setWord b (o.toNat / 4) v

/-- `RB.setBits`, one indivisible step (R123). -/
def rbSetBits (b : Block) (o : Int) (m : Word) (s : State) : Except Abort State := do
  rbCheck s.params b o
  return s.setWord b (o.toNat / 4) (s.word b (o.toNat / 4) ||| m)

/-- `RB.clearBits`, one indivisible step (R124). -/
def rbClearBits (b : Block) (o : Int) (m : Word) (s : State) : Except Abort State := do
  rbCheck s.params b o
  return s.setWord b (o.toNat / 4) (s.word b (o.toNat / 4) &&& ~~~m)

/-- Byte k of a word as the store holds it: the most significant byte first (R66; log 21). -/
def byteOfWord (w : Word) (k : Nat) : Byte :=
  w.extractLsb' (8 * (3 - k)) 8

/-- The byte at an offset of a block's store. -/
def State.byteIn (b : Block) (o : Nat) (s : State) : Byte :=
  byteOfWord (s.word b (o / 4)) (o % 4)

/-- The byte a bus address holds: none outside the two windows (R60, R66).
Which block answers is the bus dispatch's; the model names the MI first, which matters only where windows overlap. -/
def State.byteAt (addr : Nat) (s : State) : Option Byte :=
  if s.params.miBase ≤ addr ∧ addr < s.params.miBase + s.params.miLen then some (s.byteIn .mi (addr - s.params.miBase))
  else if s.params.viBase ≤ addr ∧ addr < s.params.viBase + s.params.viLen then
    some (s.byteIn .vi (addr - s.params.viBase))
  else none

end Sys2Proof.Machine
end

