-- ==== Sys2Proof/Machine/Flags.lean ====
section
/-! DEFINITION. The flag computations: the interrupt line (R28), the mode flags after a mode write (R146), the mask after
a mask write (R149, R151), and the fields of VI_CONTROL (R215, R216). -/

namespace Sys2Proof.Machine

/-- `MI.lineValue`: pending AND mask, a 6-bit value (R28). -/
def State.lineValue (s : State) : BitVec 6 :=
  (s.miReg .intr).extractLsb' 0 6 &&& (s.miReg .intrMask).extractLsb' 0 6

/-- `MI.line`, combinational and never stored (R28; log 30). -/
def State.line (s : State) : Bool :=
  s.lineValue != 0

/-- A mode flag of the stored MI_MODE word, with its set and clear bits in the write value (R24, R80; PRESUMED, unsafe:
log 12). -/
structure ModeFlag where
  flag : Word
  setBit : Nat
  clearBit : Nat
deriving DecidableEq, Repr

/-- RDRAM: flag 0x200, set by D[13], cleared by D[12] (R146). -/
def flagRdram : ModeFlag := { flag := 0x200, setBit := 13, clearBit := 12 }

/-- INIT: flag 0x080, set by D[8], cleared by D[7] (R146). -/
def flagInit : ModeFlag := { flag := 0x080, setBit := 8, clearBit := 7 }

/-- EBUS: flag 0x100, set by D[10], cleared by D[9] (R146). -/
def flagEbus : ModeFlag := { flag := 0x100, setBit := 10, clearBit := 9 }

/-- The bit of the mode write that clears DP pending, `CLR_DP_INTR` (R80). -/
def clearDpBit : Nat := 11

/-- One flag's update: the set bit first, then the clear bit, so that clear wins (R146). -/
def updateModeFlag (f : ModeFlag) (d m : Word) : Word :=
  let m := if d.getLsbD f.setBit then m ||| f.flag else m
  if d.getLsbD f.clearBit then m &&& ~~~f.flag else m

/-- The mode word after a mode write (R146). -/
def modeAfterWrite (d m : Word) : Word :=
  updateModeFlag flagEbus d (updateModeFlag flagInit d (updateModeFlag flagRdram d m))

/-- The 6-bit vector whose bit i is bit `2·i + k` of D (R151). -/
def maskVector (d : Word) (k : Nat) : BitVec 6 :=
  BitVec.ofBool (d.getLsbD (10 + k)) ++ BitVec.ofBool (d.getLsbD (8 + k)) ++ BitVec.ofBool (d.getLsbD (6 + k)) ++
    BitVec.ofBool (d.getLsbD (4 + k)) ++ BitVec.ofBool (d.getLsbD (2 + k)) ++ BitVec.ofBool (d.getLsbD k)

/-- `maskDecode(D) = (clr, set)` (R151; PRESUMED bit places, unsafe: log 12). It follows the pseudocode of R151 and the table of
R83, so that `maskDecode(0x0C40)` has clr = 101000; R151's own example and test vector MK5 print clr = 001000 (DEDUCED, safe:
log 31). -/
def maskDecode (d : Word) : BitVec 6 × BitVec 6 :=
  (maskVector d 0, maskVector d 1)

/-- The mask word after a mask write: clear, then set, so that set wins (R149). -/
def maskAfterWrite (d m : Word) : Word :=
  (m &&& ~~~((maskDecode d).1.setWidth 32)) ||| (maskDecode d).2.setWidth 32

/-- `VI.interlaced()`, the SERRATE bit (R215; PRESUMED bit place, unsafe: log 13). -/
def State.interlaced (s : State) : Bool :=
  (s.viReg .control).getLsbD s.params.serrateBit

/-- `VI.is32bpp()` (R216; PRESUMED encoding, unsafe: log 13). No rule reads it; it stands for the collaborators. -/
def State.is32bpp (s : State) : Bool :=
  (s.viReg .control).extractLsb' s.params.typeLow 2 == s.params.type32

/-- The parity of the next field: toggled while interlaced, else forced to 0 (R220, 90_conflicts.md C3). -/
def State.nextParity (s : State) : BitVec 1 :=
  if s.interlaced then s.fieldParity ^^^ 1 else 0

end Sys2Proof.Machine
end

