-- ==== Sys2Proof/Machine/Operands.lean ====
section
/-! DEFINITION. The operand and result forms: the 32-bit reductions (R9), the value a read returns in its form (R65),
the scale factors (R217), and the cause codes of a failed transaction (R260 to R262). -/

namespace Sys2Proof.Machine

/-- `u32(x)`: the two's-complement reduction of any integer (R9). -/
def u32 (x : Int) : Word :=
  BitVec.ofInt 32 x

/-- `s32(w)`: a word read as two's complement (R9). -/
def s32 (w : Word) : Int :=
  w.toInt

/-- The number a read returns: the word unsigned for U32, and `s32` of the same bits for S32 (R65). -/
def ReadResult.value (r : ReadResult) : Int :=
  match r.form with
  | .u32 => r.word.toNat
  | .s32 => s32 r.word

/-- A scale factor: bits 11:0 over 1024, an exact rational (R34, R217). -/
def scaleOf (w : Word) : Rat :=
  mkRat (w.extractLsb' 0 12).toNat 1024

/-- `VI.xScale()` (R217). -/
def State.xScale (s : State) : Rat :=
  scaleOf (s.viReg .xScale)

/-- `VI.yScale()` (R217). -/
def State.yScale (s : State) : Rat :=
  scaleOf (s.viReg .yScale)

/-- The cause code of a fault (R260, R262). -/
def faultCode : Fault → Nat
  | .boundsError _ _ => 1
  | .zeroFramePeriod => 2

/-- The cause code of a refusal (R261); none for a reason that is not the spec's. -/
def refusalCode : Refusal → Option Nat
  | .reservedTransaction _ => some 16
  | .unsupportedWidth _ => some 17
  | .badSource _ => some 18
  | .noPendingVbl _ => some 19
  | _ => none

end Sys2Proof.Machine
end

