-- ==== Sys2Proof/Machine/Ops.lean ====
section
/-! DEFINITION. The shared operations: how a transaction begins, completes, or is undone by a fault or a refusal (R11,
R262, R264); the events and the notification (R10, R145); the scheduler's slot (R40); the source operations (R152,
R153); the bus forms (R65, R121, R122); reset (R290); and the presented transactions (R13). -/

namespace Sys2Proof.Machine

/-- A transaction begins with nothing emitted. -/
def State.start (s : State) : State :=
  { s with events := [] }

/-- A transaction completes, with the value it read if it is a read (R11). -/
def State.completed (read : Option ReadResult) (s : State) : State :=
  { s with outcome := .ok read }

/-- TAKING A FAULT: the state before the transaction, with `faulted` set; nothing is emitted and no value is returned
(R11, R63, R262). -/
def State.takeFault (r : Fault) (s : State) : State :=
  { s with faulted := true, events := [], outcome := .fault r }

/-- TAKING A REFUSAL: the state before the transaction, with `refused` set; nothing is emitted (R11, R261). -/
def State.takeRefusal (r : Refusal) (s : State) : State :=
  { s with refused := true, events := [], outcome := .refused r }

/-- The state after a transaction that was cut short, from the state before it. -/
def State.takeAbort (a : Abort) (s : State) : State :=
  match a with
  | .fault r => s.takeFault r
  | .refused r => s.takeRefusal r

/-- The answer of a transaction that began in `s`: its result, or `s` with the failure taken, so that whatever the
transaction had written is undone (R63, R262). -/
def State.commit (s : State) (x : Except Abort State) : Host.Outcome State Fault Refusal :=
  match x with
  | .ok t => .next t
  | .error a => .next (s.takeAbort a)

/-- A transaction word the decoder turned away: the fault or refusal of its reason (R103, R261). -/
def State.takeReject (t : Transaction) (r : Reject) (s : State) : State :=
  match r with
  | .reservedTransaction => s.takeRefusal (.reservedTransaction t.tw)
  | .unsupportedWidth => s.takeRefusal (.unsupportedWidth t.tw)
  | .badSource => s.takeRefusal (.badSource t.tw)
  | .boundsError addr n => s.takeFault (.boundsError addr n)

/-- A step with no transaction presented: nothing happens and nothing is emitted (R292; log 1). -/
def State.idleStep (s : State) : State :=
  { s with events := [], outcome := .idle }

/-- `emit`: an event is appended to the transaction's events (R10). -/
def State.emit (e : Event) (s : State) : State :=
  { s with events := s.events ++ [e] }

/-- `emit Notify`: the reference CPU takes the line as it stands now (R42, R145). -/
def State.notify (s : State) : State :=
  { s with events := s.events ++ [.notify], cpuLine := s.line }

/-- `scheduleCallback(n, VBL)` and its event (R40, R212, R220). -/
def State.scheduleVbl (n : Nat) (s : State) : State :=
  { s with schedPending := true, schedCountdown := n, events := s.events ++ [.schedule n] }

/-- `cyclesUntilCallback(VBL)` (R40; P_UNTIL_NONE: log 15). -/
def State.untilVbl (s : State) : Int :=
  if s.schedPending then s.schedCountdown else s.params.untilNone

/-- `MI.raise(i)` (R152). -/
def miRaise (src : Source) (s : State) : Except Abort State := do
  let t ← rbSetBits .mi (miOffset .intr) (sourceBit src) s
  return t.notify

/-- `MI.clear(i)` (R153; log 17). -/
def miClear (src : Source) (s : State) : Except Abort State := do
  let t ← rbClearBits .mi (miOffset .intr) (sourceBit src) s
  return t.notify

/-- A plain bus read: the stored word in the form asked for, and no other effect (R65, R121). -/
def busRead (b : Block) (o : Int) (form : ReadForm) (s : State) : Except Abort State := do
  let w ← rbReadWord b o s
  return s.completed (some { form := form, word := w })

/-- A plain bus write: the word is stored whole, and there is no other effect (R122). -/
def busWrite (b : Block) (o : Int) (d : Word) (s : State) : Except Abort State := do
  let t ← rbWriteWord b o d s
  return t.completed none

/-- A bus write that is silently ignored (R147, R148). -/
def busIgnore (s : State) : Except Abort State :=
  .ok (s.completed none)

/-- `RESET tv` (R290): everything as at construction with the same parameters; the sticky flags stay (R43), and so do the model's own input and
count of draws (log 23). No `Notify` is emitted. -/
def State.resetTo (tv : BitVec 8) (s : State) : State :=
  { State.construct s.params tv with faulted := s.faulted, refused := s.refused, draws := s.draws, input := s.input }

/-- The oldest presented transaction, and the state with it taken off the list (R13; log 1). -/
def State.fetch (s : State) : Option (Transaction × State) :=
  match s.input with
  | [] => none
  | t :: rest => some (t, { s with input := rest })

end Sys2Proof.Machine
end

