-- ==== Sys2Proof/Machine/ViTiming.lean ====
section
/-! DEFINITION. The VI's timing: the retiming arithmetic (R214), the current-line converter (R218, R219), the arm
decision (R212) and the vertical-blank handler (R220). -/

namespace Sys2Proof.Machine

/-- `timing(clock, refresh, V) = (cps, cpvb)`, in natural numbers with no 32-bit wrap (R214; log 20). -/
def timing (clock refresh v : Nat) : Nat × Nat :=
  let n := v + 1
  let cps := clock / (refresh * n)
  (cps, n * cps)

/-- A word with bit 0 replaced by the field parity (R84). -/
def State.withParity (w : Word) (s : State) : Word :=
  (w &&& 0xFFFFFFFE#32) ||| s.fieldParity.setWidth 32

/-- `drawCurrentLine()`: a free word but for its bit 0, which is the field parity (R219; log 5). -/
def State.drawCurrentLine (s : State) : Word :=
  s.withParity (Config.draw s.draws)

/-- The raw scanline of `r` remaining cycles, wrapped once; for cps > 0, floor division (R218; log 20). -/
def State.scanline (r : Int) (s : State) : Int :=
  let executed := (s.cpvb : Int) - r
  let raw := executed / (s.cps : Int)
  let v : Int := (s.viReg .vSync).toNat
  if v ≤ raw then raw - v else raw

/-- `currentLine(r)` (R218). -/
def State.currentLine (r : Int) (s : State) : Word :=
  if s.cps = 0 then s.drawCurrentLine else s.withParity (u32 (s.scanline r))

/-- The count of draws after a current-line read: one more when the read drew (log 5). -/
def State.spendDraw (s : State) : State :=
  { s with draws := if s.cps = 0 then s.draws + 1 else s.draws }

/-- The retiming store of a changed V_SYNC: the new timing, and the word stored (R210). -/
def State.retime (d : Word) (s : State) : State :=
  { s with
    cps := (timing s.clockHz s.refreshRateHz d.toNat).1
    cpvb := (timing s.clockHz s.refreshRateHz d.toNat).2 }

/-- `VI.arm()` (R212). The gate is unsigned, and an armed callback is never cancelled. -/
def arm (s : State) : Except Abort State :=
  if s.schedPending then .ok s
  else if s.viReg .vIntr < s.viReg .vSync then
    if s.cpvb = 0 then .error (.fault .zeroFramePeriod) else .ok (s.scheduleVbl s.cpvb)
  else .ok (s.emit (.diag (.armDeclined (s.viReg .vIntr) (s.viReg .vSync))))

/-- The one-shot callback is consumed and the field parity advances (R220, first two steps). -/
def State.enterVbl (s : State) : State :=
  { s with schedPending := false, fieldParity := s.nextParity }

/-- The frame is presented and the host is yielded to (R220, last two steps; R243, R244). -/
def State.presentFrame (s : State) : State :=
  (s.emit (.present (s.viReg .dramAddr) (s.viReg .hWidth) (s.viReg .control))).emit .yield

/-- `onVerticalBlank()` (R220): parity, re-request without the gate, raise VI, present, yield. -/
def onVerticalBlank (s : State) : Except Abort State :=
  let s1 := s.enterVbl
  if s1.cpvb = 0 then .error (.fault .zeroFramePeriod)
  else do
    let t ← miRaise .vi (s1.scheduleVbl s1.cpvb)
    return t.presentFrame

end Sys2Proof.Machine
end

