-- ==== Sys2Proof/Machine/Events.lean ====
section
/-! DEFINITION. The collaborator events: VBL (R220), RAISE and CLEAR (R152, R153), RESET (R290), TICK (R241), DUMP (R247)
and QUIET (R248). -/

namespace Sys2Proof.Machine

/-- `VBL` (R220): the scheduler fires the queued callback; with none pending the transaction is refused. -/
def execVbl (s : State) : Host.Outcome State Fault Refusal :=
  s.commit do
    if s.start.schedPending then
      let t ← onVerticalBlank s.start
      return t.completed none
    else .error (.refused (.noPendingVbl (encode .vbl).tw))

/-- `RAISE src` (R152). -/
def execRaise (src : Source) (s : State) : Host.Outcome State Fault Refusal :=
  s.commit do
    let t ← miRaise src s.start
    return t.completed none

/-- `CLEAR src` (R153). -/
def execClear (src : Source) (s : State) : Host.Outcome State Fault Refusal :=
  s.commit do
    let t ← miClear src s.start
    return t.completed none

/-- `RESET tv` (R290). -/
def execReset (tv : BitVec 8) (s : State) : Host.Outcome State Fault Refusal :=
  s.commit (.ok ((s.resetTo tv).completed none))

/-- `TICK n` (R241): time advances by n cycles, and a callback that is due fires once, at the end (log 16). -/
def execTick (n : Nat) (s : State) : Host.Outcome State Fault Refusal :=
  s.commit do
    if s.start.schedPending then
      let t := { s.start with schedCountdown := s.start.schedCountdown - n }
      let u ← if t.schedCountdown ≤ 0 then onVerticalBlank t else pure t
      return u.completed none
    else return s.start.completed none

/-- `DUMP` (R247): the raw stores and the scale factors; nothing is recomputed. -/
def execDump (s : State) : Host.Outcome State Fault Refusal :=
  s.commit (.ok ((s.start.emit (.diag (.dump (s.store .mi) (s.store .vi) s.xScale s.yScale))).completed none))

/-- `QUIET q` (R248). -/
def execQuiet (q : Bool) (s : State) : Host.Outcome State Fault Refusal :=
  s.commit (.ok ({ s.start with quiet := q }.completed none))

end Sys2Proof.Machine
end

