-- ==== Sys2Proof/Machine/MiBus.lean ====
section
/-! DEFINITION. The MI's bus transactions: reads (R140 to R143) and writes (R146 to R149). -/

namespace Sys2Proof.Machine

/-- `LW MI.MODE` and `LWS MI.MODE` (R140). -/
def execLwMiMode (form : ReadForm) (s : State) : Host.Outcome State Fault Refusal :=
  s.commit (busRead .mi (miOffset .mode) form s.start)

/-- `LW MI.VERSION` and `LWS MI.VERSION` (R141). -/
def execLwMiVersion (form : ReadForm) (s : State) : Host.Outcome State Fault Refusal :=
  s.commit (busRead .mi (miOffset .version) form s.start)

/-- `LW MI.INTR` and `LWS MI.INTR` (R142). -/
def execLwMiIntr (form : ReadForm) (s : State) : Host.Outcome State Fault Refusal :=
  s.commit (busRead .mi (miOffset .intr) form s.start)

/-- `LW MI.INTR_MASK` and `LWS MI.INTR_MASK` (R143). -/
def execLwMiIntrMask (form : ReadForm) (s : State) : Host.Outcome State Fault Refusal :=
  s.commit (busRead .mi (miOffset .intrMask) form s.start)

/-- `SW MI.MODE, D` (R146): the flags, clear winning over set, and the independent DP clear. -/
def execSwMiMode (d : Word) (s : State) : Host.Outcome State Fault Refusal :=
  s.commit do
    let m ← rbReadWord .mi (miOffset .mode) s.start
    let t ← rbWriteWord .mi (miOffset .mode) (modeAfterWrite d m) s.start
    let u ← if d.getLsbD clearDpBit then miClear .dp t else pure t
    return u.completed none

/-- `SW MI.VERSION, D` (R147): read-only, silently ignored. -/
def execSwMiVersion (_d : Word) (s : State) : Host.Outcome State Fault Refusal :=
  s.commit (busIgnore s.start)

/-- `SW MI.INTR, D` (R148): read-only from the bus, silently ignored. -/
def execSwMiIntr (_d : Word) (s : State) : Host.Outcome State Fault Refusal :=
  s.commit (busIgnore s.start)

/-- `SW MI.INTR_MASK, D` (R149): set wins over clear; `Notify` exactly when the new mask AND pending is not 0. -/
def execSwMiIntrMask (d : Word) (s : State) : Host.Outcome State Fault Refusal :=
  s.commit do
    let m ← rbReadWord .mi (miOffset .intrMask) s.start
    let t ← rbWriteWord .mi (miOffset .intrMask) (maskAfterWrite d m) s.start
    let pending ← rbReadWord .mi (miOffset .intr) t
    let u := if maskAfterWrite d m &&& pending ≠ 0 then t.notify else t
    return u.completed none

end Sys2Proof.Machine
end

