-- ==== Sys2Proof/Machine/ViReads.lean ====
section
/-! DEFINITION. The VI's bus reads (R180 to R193). -/

namespace Sys2Proof.Machine

/-- `LW VI.CONTROL` and `LWS VI.CONTROL` (R180). -/
def execLwViControl (form : ReadForm) (s : State) : Host.Outcome State Fault Refusal :=
  s.commit (busRead .vi (viOffset .control) form s.start)

/-- `LW VI.DRAM_ADDR` and `LWS VI.DRAM_ADDR` (R181). -/
def execLwViDramAddr (form : ReadForm) (s : State) : Host.Outcome State Fault Refusal :=
  s.commit (busRead .vi (viOffset .dramAddr) form s.start)

/-- `LW VI.H_WIDTH` and `LWS VI.H_WIDTH` (R182). -/
def execLwViHWidth (form : ReadForm) (s : State) : Host.Outcome State Fault Refusal :=
  s.commit (busRead .vi (viOffset .hWidth) form s.start)

/-- `LW VI.V_INTR` and `LWS VI.V_INTR` (R183). -/
def execLwViVIntr (form : ReadForm) (s : State) : Host.Outcome State Fault Refusal :=
  s.commit (busRead .vi (viOffset .vIntr) form s.start)

/-- `LW VI.CURRENT` and `LWS VI.CURRENT` (R184): recomputed on each read, and written back before it is returned. -/
def execLwViCurrent (form : ReadForm) (s : State) : Host.Outcome State Fault Refusal :=
  s.commit do
    let w := s.start.currentLine s.start.untilVbl
    let t ← rbWriteWord .vi (viOffset .current) w s.start.spendDraw
    return t.completed (some { form := form, word := w })

/-- `LW VI.BURST` and `LWS VI.BURST` (R185). -/
def execLwViBurst (form : ReadForm) (s : State) : Host.Outcome State Fault Refusal :=
  s.commit (busRead .vi (viOffset .burst) form s.start)

/-- `LW VI.V_SYNC` and `LWS VI.V_SYNC` (R186). -/
def execLwViVSync (form : ReadForm) (s : State) : Host.Outcome State Fault Refusal :=
  s.commit (busRead .vi (viOffset .vSync) form s.start)

/-- `LW VI.H_SYNC` and `LWS VI.H_SYNC` (R187). -/
def execLwViHSync (form : ReadForm) (s : State) : Host.Outcome State Fault Refusal :=
  s.commit (busRead .vi (viOffset .hSync) form s.start)

/-- `LW VI.LEAP` and `LWS VI.LEAP` (R188). -/
def execLwViLeap (form : ReadForm) (s : State) : Host.Outcome State Fault Refusal :=
  s.commit (busRead .vi (viOffset .leap) form s.start)

/-- `LW VI.H_START` and `LWS VI.H_START` (R189). -/
def execLwViHStart (form : ReadForm) (s : State) : Host.Outcome State Fault Refusal :=
  s.commit (busRead .vi (viOffset .hStart) form s.start)

/-- `LW VI.V_START` and `LWS VI.V_START` (R190). -/
def execLwViVStart (form : ReadForm) (s : State) : Host.Outcome State Fault Refusal :=
  s.commit (busRead .vi (viOffset .vStart) form s.start)

/-- `LW VI.V_BURST` and `LWS VI.V_BURST` (R191). -/
def execLwViVBurst (form : ReadForm) (s : State) : Host.Outcome State Fault Refusal :=
  s.commit (busRead .vi (viOffset .vBurst) form s.start)

/-- `LW VI.X_SCALE` and `LWS VI.X_SCALE` (R192). -/
def execLwViXScale (form : ReadForm) (s : State) : Host.Outcome State Fault Refusal :=
  s.commit (busRead .vi (viOffset .xScale) form s.start)

/-- `LW VI.Y_SCALE` and `LWS VI.Y_SCALE` (R193). -/
def execLwViYScale (form : ReadForm) (s : State) : Host.Outcome State Fault Refusal :=
  s.commit (busRead .vi (viOffset .yScale) form s.start)

end Sys2Proof.Machine
end

