-- ==== Sys2Proof/Machine/ViWrites.lean ====
section
/-! DEFINITION. The VI's bus writes (R194 to R204, R210, R211, R213). -/

namespace Sys2Proof.Machine

/-- `SW VI.CONTROL, D` (R194). -/
def execSwViControl (d : Word) (s : State) : Host.Outcome State Fault Refusal :=
  s.commit (busWrite .vi (viOffset .control) d s.start)

/-- `SW VI.DRAM_ADDR, D` (R195). -/
def execSwViDramAddr (d : Word) (s : State) : Host.Outcome State Fault Refusal :=
  s.commit (busWrite .vi (viOffset .dramAddr) d s.start)

/-- `SW VI.H_WIDTH, D` (R196). -/
def execSwViHWidth (d : Word) (s : State) : Host.Outcome State Fault Refusal :=
  s.commit (busWrite .vi (viOffset .hWidth) d s.start)

/-- `SW VI.V_INTR, D` (R211): the word is stored, then the arm decision runs. -/
def execSwViVIntr (d : Word) (s : State) : Host.Outcome State Fault Refusal :=
  s.commit do
    let t ← rbWriteWord .vi (viOffset .vIntr) d s.start
    let u ← arm t
    return u.completed none

/-- `SW VI.CURRENT, D` (R213): the acknowledge; D is discarded and nothing is stored. -/
def execSwViCurrent (_d : Word) (s : State) : Host.Outcome State Fault Refusal :=
  s.commit do
    let t ← miClear .vi s.start
    return t.completed none

/-- `SW VI.BURST, D` (R197). -/
def execSwViBurst (d : Word) (s : State) : Host.Outcome State Fault Refusal :=
  s.commit (busWrite .vi (viOffset .burst) d s.start)

/-- `SW VI.V_SYNC, D` (R210): the stored value again does nothing; a changed one retimes, is stored, and arms. -/
def execSwViVSync (d : Word) (s : State) : Host.Outcome State Fault Refusal :=
  s.commit do
    let v ← rbReadWord .vi (viOffset .vSync) s.start
    if d = v then return s.start.completed none
    else
      let t ← rbWriteWord .vi (viOffset .vSync) d (s.start.retime d)
      let u ← arm t
      return u.completed none

/-- `SW VI.H_SYNC, D` (R198). -/
def execSwViHSync (d : Word) (s : State) : Host.Outcome State Fault Refusal :=
  s.commit (busWrite .vi (viOffset .hSync) d s.start)

/-- `SW VI.LEAP, D` (R199). -/
def execSwViLeap (d : Word) (s : State) : Host.Outcome State Fault Refusal :=
  s.commit (busWrite .vi (viOffset .leap) d s.start)

/-- `SW VI.H_START, D` (R200). -/
def execSwViHStart (d : Word) (s : State) : Host.Outcome State Fault Refusal :=
  s.commit (busWrite .vi (viOffset .hStart) d s.start)

/-- `SW VI.V_START, D` (R201). -/
def execSwViVStart (d : Word) (s : State) : Host.Outcome State Fault Refusal :=
  s.commit (busWrite .vi (viOffset .vStart) d s.start)

/-- `SW VI.V_BURST, D` (R202). -/
def execSwViVBurst (d : Word) (s : State) : Host.Outcome State Fault Refusal :=
  s.commit (busWrite .vi (viOffset .vBurst) d s.start)

/-- `SW VI.X_SCALE, D` (R203). -/
def execSwViXScale (d : Word) (s : State) : Host.Outcome State Fault Refusal :=
  s.commit (busWrite .vi (viOffset .xScale) d s.start)

/-- `SW VI.Y_SCALE, D` (R204). -/
def execSwViYScale (d : Word) (s : State) : Host.Outcome State Fault Refusal :=
  s.commit (busWrite .vi (viOffset .yScale) d s.start)

end Sys2Proof.Machine
end

