-- ==== Sys2Proof/Machine/Dispatch.lean ====
section
/-! DEFINITION. exec: one arm per constructor of Instr, each a direct call of its meaning. -/

namespace Sys2Proof.Machine

def exec (i : Instr) (s : State) : Host.Outcome State Fault Refusal :=
  match i with
  | .lwMiMode form => Sys2Proof.Machine.execLwMiMode form s
  | .lwMiVersion form => Sys2Proof.Machine.execLwMiVersion form s
  | .lwMiIntr form => Sys2Proof.Machine.execLwMiIntr form s
  | .lwMiIntrMask form => Sys2Proof.Machine.execLwMiIntrMask form s
  | .lwViControl form => Sys2Proof.Machine.execLwViControl form s
  | .lwViDramAddr form => Sys2Proof.Machine.execLwViDramAddr form s
  | .lwViHWidth form => Sys2Proof.Machine.execLwViHWidth form s
  | .lwViVIntr form => Sys2Proof.Machine.execLwViVIntr form s
  | .lwViCurrent form => Sys2Proof.Machine.execLwViCurrent form s
  | .lwViBurst form => Sys2Proof.Machine.execLwViBurst form s
  | .lwViVSync form => Sys2Proof.Machine.execLwViVSync form s
  | .lwViHSync form => Sys2Proof.Machine.execLwViHSync form s
  | .lwViLeap form => Sys2Proof.Machine.execLwViLeap form s
  | .lwViHStart form => Sys2Proof.Machine.execLwViHStart form s
  | .lwViVStart form => Sys2Proof.Machine.execLwViVStart form s
  | .lwViVBurst form => Sys2Proof.Machine.execLwViVBurst form s
  | .lwViXScale form => Sys2Proof.Machine.execLwViXScale form s
  | .lwViYScale form => Sys2Proof.Machine.execLwViYScale form s
  | .swMiMode d => Sys2Proof.Machine.execSwMiMode d s
  | .swMiVersion d => Sys2Proof.Machine.execSwMiVersion d s
  | .swMiIntr d => Sys2Proof.Machine.execSwMiIntr d s
  | .swMiIntrMask d => Sys2Proof.Machine.execSwMiIntrMask d s
  | .swViControl d => Sys2Proof.Machine.execSwViControl d s
  | .swViDramAddr d => Sys2Proof.Machine.execSwViDramAddr d s
  | .swViHWidth d => Sys2Proof.Machine.execSwViHWidth d s
  | .swViVIntr d => Sys2Proof.Machine.execSwViVIntr d s
  | .swViCurrent d => Sys2Proof.Machine.execSwViCurrent d s
  | .swViBurst d => Sys2Proof.Machine.execSwViBurst d s
  | .swViVSync d => Sys2Proof.Machine.execSwViVSync d s
  | .swViHSync d => Sys2Proof.Machine.execSwViHSync d s
  | .swViLeap d => Sys2Proof.Machine.execSwViLeap d s
  | .swViHStart d => Sys2Proof.Machine.execSwViHStart d s
  | .swViVStart d => Sys2Proof.Machine.execSwViVStart d s
  | .swViVBurst d => Sys2Proof.Machine.execSwViVBurst d s
  | .swViXScale d => Sys2Proof.Machine.execSwViXScale d s
  | .swViYScale d => Sys2Proof.Machine.execSwViYScale d s
  | .vbl => Sys2Proof.Machine.execVbl s
  | .raise src => Sys2Proof.Machine.execRaise src s
  | .clear src => Sys2Proof.Machine.execClear src s
  | .reset tv => Sys2Proof.Machine.execReset tv s
  | .tick n => Sys2Proof.Machine.execTick n s
  | .dump => Sys2Proof.Machine.execDump s
  | .quiet q => Sys2Proof.Machine.execQuiet q s

end Sys2Proof.Machine
end

