-- ==== Sys2Proof/Machine/RawAccess.lean ====
section
/-! DEFINITION. The raw access of an undecoded in-bounds offset (R144, R150, R205, R206). No row of the opcode table names
it, and with the reference lengths no offset reaches it: it takes a longer store (R67; log 22). -/

namespace Sys2Proof.Machine

/-- The raw read (R144, R206): the stored word, with no side effect. -/
def execRawRead (b : Block) (o : Nat) (form : ReadForm) (s : State) : Host.Outcome State Fault Refusal :=
  s.commit (busRead b o form s.start)

/-- The raw write (R150, R205): a raw store and a diagnostic. -/
def execRawWrite (b : Block) (o : Nat) (d : Word) (s : State) : Host.Outcome State Fault Refusal :=
  s.commit do
    let t ← rbWriteWord b o d s.start
    return (t.emit (.diag (.unexpectedWrite b o d))).completed none

end Sys2Proof.Machine
end

