-- ==== Sys2Proof/Machine/Step.lean ====
section
/-! DEFINITION. One step: the oldest presented transaction is taken, decoded and run (R13, R70, R103). -/

namespace Sys2Proof.Machine

/-- What a decoded transaction does. -/
def runDecoded (d : Decoded) (s : State) : Host.Outcome State Fault Refusal :=
  match d with
  | .instr i => exec i s
  | .rawRead b o form => execRawRead b o form s
  | .rawWrite b o w => execRawWrite b o w s

/-- One step. A rejected transaction takes its fault or refusal and is over, so the next one runs (R264); with none
presented the block is idle (R292). -/
def step (s : State) : Host.Outcome State Fault Refusal :=
  match s.fetch with
  | none => .next s.idleStep
  | some (t, s') =>
    match decode s.params t with
    | .ok d => runDecoded d s'
    | .error r => .next (s'.takeReject t r)

/-- The state with a row's bits presented as the next transaction (log 1). -/
def State.withFetchWord (s : State) (nbits w : Nat) : State :=
  { s with input := Transaction.ofBits nbits w :: s.input }

end Sys2Proof.Machine
end

