-- ==== Sys2Proof/Laws/Decode.lean ====
section
/-! SUPPORT. What the decoder does with each kind of word, said once, so that no proof unfolds it. -/

namespace Sys2Proof

open Machine

/-- Translation undoes the address of an offset (R61). -/
@[simp] theorem Machine.busOffset_busAddress (p : Params) (b : Block) (o : Int) : busOffset p b (busAddress p b o) = o := by
  simp [busOffset, busAddress]

/-- An in-bounds write word decodes to the row its offset selects. -/
theorem decode_write (p : Params) (t : Transaction) (hk : fieldK t.tw = 0b01#2) (hz : fieldBusZero t.tw = 0)
    (hs : fieldS t.tw = false) (hw : fieldW t.tw = 0b10#2) (hb : inBounds p (fieldU t.tw) (fieldO t.tw).toNat 4 = true) :
    decode p t = .ok (selectWrite (fieldU t.tw) (fieldO t.tw).toNat t.data) := by
  simp [decode, decodeBus, isBus, isWrite, hk, hz, hs, hw, hb]

/-- An in-bounds read word decodes to the row its offset selects, in the form its `S` bit names. -/
theorem decode_read (p : Params) (t : Transaction) (hk : fieldK t.tw = 0b00#2) (hz : fieldBusZero t.tw = 0)
    (hw : fieldW t.tw = 0b10#2) (hb : inBounds p (fieldU t.tw) (fieldO t.tw).toNat 4 = true) :
    decode p t = .ok (selectRead (fieldU t.tw) (fieldO t.tw).toNat (if fieldS t.tw then .s32 else .u32)) := by
  simp [decode, decodeBus, isBus, isWrite, hk, hz, hw, hb]

/-- An event word is decoded by its code. -/
theorem decode_event (p : Params) (t : Transaction) (hk : fieldK t.tw = 0b10#2) : decode p t = decodeEvent t := by
  simp [decode, isBus, hk]

/-- Longer stores put no offset out of bounds: what the registers alone admit, every parameters admit. -/
theorem Machine.inBounds_of_reference (p : Params) (b : Block) (o : Int) (n : Nat)
    (h : inBounds referenceParams b o n = true) : inBounds p b o n = true := by
  have e : blockLen referenceParams b ≤ blockLen p b := by
    cases b <;> exact Nat.mul_le_mul_left 4 (Nat.add_le_add_left (Nat.zero_le _) _)
  simp only [inBounds, Bool.and_eq_true, decide_eq_true_eq] at h ⊢
  omega

/-- An in-bounds offset of the MI window below its registers' end is the offset of a register (R67). -/
theorem Machine.miRegAt_inBounds (p : Params) (o : Nat) (h : inBounds p .mi o 4 = true) (hr : o < 4 * Config.miWords) :
    ∃ r, miRegAt o = some r ∧ miOffset r = o := by
  simp only [inBounds, Bool.and_eq_true, decide_eq_true_eq] at h
  have key : ∀ o < 16, o % 4 = 0 → ∃ r ∈ miRegs, miRegAt o = some r ∧ miOffset r = o := by decide
  obtain ⟨r, -, hr⟩ := key o hr (by omega)
  exact ⟨r, hr⟩

/-- An in-bounds offset of the VI window below its registers' end is the offset of a register (R67). -/
theorem Machine.viRegAt_inBounds (p : Params) (o : Nat) (h : inBounds p .vi o 4 = true) (hr : o < 4 * Config.viWords) :
    ∃ r, viRegAt o = some r ∧ viOffset r = o := by
  simp only [inBounds, Bool.and_eq_true, decide_eq_true_eq] at h
  have key : ∀ o < 56, o % 4 = 0 → ∃ r ∈ viRegs, viRegAt o = some r ∧ viOffset r = o := by decide
  obtain ⟨r, -, hr⟩ := key o hr (by omega)
  exact ⟨r, hr⟩

/-- An offset above the registers' end is no register's (R67). -/
theorem Machine.miRegAt_raw (o : Nat) (hr : 4 * Config.miWords ≤ o) : miRegAt o = none := by
  simp only [miRegAt, List.find?_eq_none, beq_iff_eq]
  intro r _ h
  cases r <;> simp [miOffset, Config.miWords] at h hr <;> omega

/-- An offset above the registers' end is no register's (R67). -/
theorem Machine.viRegAt_raw (o : Nat) (hr : 4 * Config.viWords ≤ o) : viRegAt o = none := by
  simp only [viRegAt, List.find?_eq_none, beq_iff_eq]
  intro r _ h
  cases r <;> simp [viOffset, Config.viWords] at h hr <;> omega

/-- Where the undecoded words of a block's store begin (R67). -/
def Machine.rawStart : Block → Nat
  | .mi => 4 * Config.miWords
  | .vi => 4 * Config.viWords

/-- An in-bounds read of an undecoded offset is of one above the registers. -/
theorem selectRead_raw (p : Params) (b c : Block) (o q : Nat) (f form : ReadForm) (hb : inBounds p b o 4 = true)
    (h : selectRead b o f = .rawRead c q form) : c = b ∧ q = o ∧ form = f ∧ rawStart b ≤ o := by
  by_cases hr : rawStart b ≤ o
  · cases b <;> simp_all [selectRead, rawStart, miRegAt_raw, viRegAt_raw]
  · cases b
    · obtain ⟨r, h1, -⟩ := miRegAt_inBounds p o hb (Nat.not_le.mp hr)
      simp [selectRead, h1] at h
    · obtain ⟨r, h1, -⟩ := viRegAt_inBounds p o hb (Nat.not_le.mp hr)
      simp [selectRead, h1] at h

/-- An in-bounds write of an undecoded offset is of one above the registers. -/
theorem selectWrite_raw (p : Params) (b c : Block) (o q : Nat) (d e : Word) (hb : inBounds p b o 4 = true)
    (h : selectWrite b o d = .rawWrite c q e) : c = b ∧ q = o ∧ e = d ∧ rawStart b ≤ o := by
  by_cases hr : rawStart b ≤ o
  · cases b <;> simp_all [selectWrite, rawStart, miRegAt_raw, viRegAt_raw]
  · cases b
    · obtain ⟨r, h1, -⟩ := miRegAt_inBounds p o hb (Nat.not_le.mp hr)
      simp [selectWrite, h1] at h
    · obtain ⟨r, h1, -⟩ := viRegAt_inBounds p o hb (Nat.not_le.mp hr)
      simp [selectWrite, h1] at h

/-- What an accepted transaction is: an in-bounds write, an in-bounds read, or an event's instruction. -/
theorem decode_accepts (p : Params) (t : Transaction) (d : Decoded) (h : decode p t = .ok d) :
    (isWrite t.tw = true ∧ inBounds p (fieldU t.tw) (fieldO t.tw).toNat 4 = true ∧
      d = selectWrite (fieldU t.tw) (fieldO t.tw).toNat t.data) ∨
    (isBus t.tw = true ∧ isWrite t.tw = false ∧ inBounds p (fieldU t.tw) (fieldO t.tw).toNat 4 = true ∧
      d = selectRead (fieldU t.tw) (fieldO t.tw).toNat (if fieldS t.tw then .s32 else .u32)) ∨
    (isBus t.tw = false ∧ decodeEvent t = .ok d ∧ ∃ i, d = .instr i) := by
  unfold decode at h
  split at h
  · cases h
  · split at h
    · rename_i hb
      simp only [decodeBus, busOffset_busAddress, Int.toNat_natCast] at h
      split at h
      · cases h
      · split at h
        · cases h
        · split at h
          · cases h
          · rename_i hi
            have hi := Bool.eq_true_of_not_eq_false hi
            split at h <;> cases h
            · exact .inl ⟨‹_›, hi, rfl⟩
            · exact .inr (.inl ⟨hb, Bool.eq_false_of_not_eq_true ‹_›, hi, rfl⟩)
    · refine .inr (.inr ⟨Bool.eq_false_of_not_eq_true ‹_›, h, ?_⟩)
      simp only [decodeEvent, decodePlain, decodeSource] at h
      repeat' split at h
      all_goals first | (cases h; done) | (cases h; exact ⟨_, rfl⟩)

/-- A read selects no write. -/
theorem selectRead_ne_rawWrite (b c : Block) (o q : Nat) (f : ReadForm) (d : Word) : selectRead b o f ≠ .rawWrite c q d := by
  cases b
  · cases h : miRegAt o <;> simp [selectRead, h]
  · cases h : viRegAt o <;> simp [selectRead, h]

/-- A write selects no read. -/
theorem selectWrite_ne_rawRead (b c : Block) (o q : Nat) (f : ReadForm) (d : Word) : selectWrite b o d ≠ .rawRead c q f := by
  cases b
  · cases h : miRegAt o <;> simp [selectWrite, h]
  · cases h : viRegAt o <;> simp [selectWrite, h]

/-- A raw access is of an in-bounds offset above the registers, and a raw write carries the write data (R67). -/
theorem decode_rawRead (p : Params) (t : Transaction) (b : Block) (o : Nat) (f : ReadForm)
    (h : decode p t = .ok (.rawRead b o f)) :
    inBounds p b o 4 = true ∧ rawStart b ≤ o ∧ b = fieldU t.tw ∧ o = (fieldO t.tw).toNat := by
  obtain ⟨-, -, hd⟩ | ⟨-, -, hb, hd⟩ | ⟨-, -, i, hd⟩ := decode_accepts p t _ h
  · exact absurd hd.symm (selectWrite_ne_rawRead _ _ _ _ _ _)
  · obtain ⟨rfl, rfl, -, hr⟩ := selectRead_raw p _ _ _ _ _ _ hb hd.symm
    exact ⟨hb, hr, rfl, rfl⟩
  · cases hd

theorem decode_rawWrite (p : Params) (t : Transaction) (b : Block) (o : Nat) (d : Word)
    (h : decode p t = .ok (.rawWrite b o d)) :
    inBounds p b o 4 = true ∧ rawStart b ≤ o ∧ b = fieldU t.tw ∧ o = (fieldO t.tw).toNat ∧ d = t.data := by
  obtain ⟨-, hb, hd⟩ | ⟨-, -, -, hd⟩ | ⟨-, -, i, hd⟩ := decode_accepts p t _ h
  · obtain ⟨rfl, rfl, rfl, hr⟩ := selectWrite_raw p _ _ _ _ _ _ hb hd.symm
    exact ⟨hb, hr, rfl, rfl, rfl⟩
  · exact absurd hd.symm (selectRead_ne_rawWrite _ _ _ _ _ _)
  · cases hd

/-- An undecoded in-bounds offset needs a store longer than its registers (R67). -/
theorem raw_needs_words (p : Params) (b : Block) (o : Nat) (h : inBounds p b o 4 = true) (hr : rawStart b ≤ o) :
    0 < (match b with | .mi => p.miRawWords | .vi => p.viRawWords) := by
  simp only [inBounds, Bool.and_eq_true, decide_eq_true_eq] at h
  cases b
  · have e : blockLen p .mi = 4 * Config.miWords + 4 * p.miRawWords := Nat.mul_add 4 _ _
    have hr : 4 * Config.miWords ≤ o := hr
    show 0 < p.miRawWords
    omega
  · have e : blockLen p .vi = 4 * Config.viWords + 4 * p.viRawWords := Nat.mul_add 4 _ _
    have hr : 4 * Config.viWords ≤ o := hr
    show 0 < p.viRawWords
    omega

end Sys2Proof
end

