-- ==== Sys2Proof/Safety.lean ====
section
/-! DEFINITION. The terms in which claims speak: the invariant every step keeps, and what a clean run is. -/

namespace Sys2Proof.Machine

/-- Each backing store holds as many undecoded words as its length parameter says (R6, R67). -/
def State.storesFit (s : State) : Bool :=
  s.miRaw.length == s.params.miRawWords && s.viRaw.length == s.params.viRawWords

/-- The relations between the fields of a state that every step keeps, and that reset establishes. -/
structure State.Inv (s : State) : Prop where
  /-- The stores have the lengths of the parameters (R6). -/
  storesFit : s.storesFit = true
  /-- The mode word holds the INIT, EBUS and RDRAM flags only (R24). -/
  modeBits : s.miReg .mode &&& ~~~0x380#32 = 0
  /-- The version register is fixed (R141). -/
  version : s.miReg .version = s.params.miVersion
  /-- The pending word holds six bits only (R25). -/
  pendingBits : s.miReg .intr &&& ~~~0x3F#32 = 0
  /-- The mask word holds six bits only (R26). -/
  maskBits : s.miReg .intrMask &&& ~~~0x3F#32 = 0
  /-- Clock and refresh rate are those of a television standard (R35, R291). -/
  standard : ∃ tv, s.clockHz = clockOf s.params tv ∧ s.refreshRateHz = refreshOf s.params tv
  /-- cps and cpvb are the timing of the stored V_SYNC, or nothing has been retimed since reset (R36). -/
  retimed : (s.cps, s.cpvb) = timing s.clockHz s.refreshRateHz (s.viReg .vSync).toNat ∨
    (s.cps = 0 ∧ s.cpvb = 0 ∧ s.viReg .vSync = 0)
  /-- A pending callback is due in the future (R241, R262). -/
  countdownPos : s.schedPending = true → 0 < s.schedCountdown
  /-- A pending callback is due within one frame period of the standard (R214, R273). -/
  countdownLe : s.schedPending = true → s.schedCountdown ≤ (s.clockHz / s.refreshRateHz : Nat)

/-- No transaction so far was cut short (R41). -/
def State.clean (s : State) : Bool :=
  !s.faulted && !s.refused

/-- The state without the outputs of the last step: what the next transaction can depend on. -/
def State.withoutOutputs (s : State) : State :=
  { s with events := [], outcome := .idle }

/-- The state with another quiet flag. -/
def State.withQuiet (q : Bool) (s : State) : State :=
  { s with quiet := q }

end Sys2Proof.Machine
end

