-- ==== Sys2Proof/Laws/State.lean ====
section
/-! SUPPORT. One lemma per field per update of State, each true by unfolding, so that no later proof unfolds a record
update. -/

namespace Sys2Proof.Machine

@[simp] theorem State.start_mi (s : State) : s.start.mi = s.mi := rfl
@[simp] theorem State.start_vi (s : State) : s.start.vi = s.vi := rfl
@[simp] theorem State.start_params (s : State) : s.start.params = s.params := rfl
@[simp] theorem State.start_miRaw (s : State) : s.start.miRaw = s.miRaw := rfl
@[simp] theorem State.start_viRaw (s : State) : s.start.viRaw = s.viRaw := rfl
@[simp] theorem State.start_clockHz (s : State) : s.start.clockHz = s.clockHz := rfl
@[simp] theorem State.start_refreshRateHz (s : State) : s.start.refreshRateHz = s.refreshRateHz := rfl
@[simp] theorem State.start_cps (s : State) : s.start.cps = s.cps := rfl
@[simp] theorem State.start_cpvb (s : State) : s.start.cpvb = s.cpvb := rfl
@[simp] theorem State.start_fieldParity (s : State) : s.start.fieldParity = s.fieldParity := rfl
@[simp] theorem State.start_schedPending (s : State) : s.start.schedPending = s.schedPending := rfl
@[simp] theorem State.start_schedCountdown (s : State) : s.start.schedCountdown = s.schedCountdown := rfl
@[simp] theorem State.start_quiet (s : State) : s.start.quiet = s.quiet := rfl
@[simp] theorem State.start_cpuLine (s : State) : s.start.cpuLine = s.cpuLine := rfl
@[simp] theorem State.start_faulted (s : State) : s.start.faulted = s.faulted := rfl
@[simp] theorem State.start_refused (s : State) : s.start.refused = s.refused := rfl
@[simp] theorem State.start_draws (s : State) : s.start.draws = s.draws := rfl
@[simp] theorem State.start_input (s : State) : s.start.input = s.input := rfl
@[simp] theorem State.start_events (s : State) : s.start.events = [] := rfl
@[simp] theorem State.start_outcome (s : State) : s.start.outcome = s.outcome := rfl

@[simp] theorem State.completed_mi (v : Option ReadResult) (s : State) : (s.completed v).mi = s.mi := rfl
@[simp] theorem State.completed_vi (v : Option ReadResult) (s : State) : (s.completed v).vi = s.vi := rfl
@[simp] theorem State.completed_params (v : Option ReadResult) (s : State) : (s.completed v).params = s.params := rfl
@[simp] theorem State.completed_miRaw (v : Option ReadResult) (s : State) : (s.completed v).miRaw = s.miRaw := rfl
@[simp] theorem State.completed_viRaw (v : Option ReadResult) (s : State) : (s.completed v).viRaw = s.viRaw := rfl
@[simp] theorem State.completed_clockHz (v : Option ReadResult) (s : State) : (s.completed v).clockHz = s.clockHz := rfl
@[simp] theorem State.completed_refreshRateHz (v : Option ReadResult) (s : State) : (s.completed v).refreshRateHz = s.refreshRateHz := rfl
@[simp] theorem State.completed_cps (v : Option ReadResult) (s : State) : (s.completed v).cps = s.cps := rfl
@[simp] theorem State.completed_cpvb (v : Option ReadResult) (s : State) : (s.completed v).cpvb = s.cpvb := rfl
@[simp] theorem State.completed_fieldParity (v : Option ReadResult) (s : State) : (s.completed v).fieldParity = s.fieldParity := rfl
@[simp] theorem State.completed_schedPending (v : Option ReadResult) (s : State) : (s.completed v).schedPending = s.schedPending := rfl
@[simp] theorem State.completed_schedCountdown (v : Option ReadResult) (s : State) : (s.completed v).schedCountdown = s.schedCountdown := rfl
@[simp] theorem State.completed_quiet (v : Option ReadResult) (s : State) : (s.completed v).quiet = s.quiet := rfl
@[simp] theorem State.completed_cpuLine (v : Option ReadResult) (s : State) : (s.completed v).cpuLine = s.cpuLine := rfl
@[simp] theorem State.completed_faulted (v : Option ReadResult) (s : State) : (s.completed v).faulted = s.faulted := rfl
@[simp] theorem State.completed_refused (v : Option ReadResult) (s : State) : (s.completed v).refused = s.refused := rfl
@[simp] theorem State.completed_draws (v : Option ReadResult) (s : State) : (s.completed v).draws = s.draws := rfl
@[simp] theorem State.completed_input (v : Option ReadResult) (s : State) : (s.completed v).input = s.input := rfl
@[simp] theorem State.completed_events (v : Option ReadResult) (s : State) : (s.completed v).events = s.events := rfl
@[simp] theorem State.completed_outcome (v : Option ReadResult) (s : State) : (s.completed v).outcome = .ok v := rfl

@[simp] theorem State.takeFault_mi (f : Fault) (s : State) : (s.takeFault f).mi = s.mi := rfl
@[simp] theorem State.takeFault_vi (f : Fault) (s : State) : (s.takeFault f).vi = s.vi := rfl
@[simp] theorem State.takeFault_params (f : Fault) (s : State) : (s.takeFault f).params = s.params := rfl
@[simp] theorem State.takeFault_miRaw (f : Fault) (s : State) : (s.takeFault f).miRaw = s.miRaw := rfl
@[simp] theorem State.takeFault_viRaw (f : Fault) (s : State) : (s.takeFault f).viRaw = s.viRaw := rfl
@[simp] theorem State.takeFault_clockHz (f : Fault) (s : State) : (s.takeFault f).clockHz = s.clockHz := rfl
@[simp] theorem State.takeFault_refreshRateHz (f : Fault) (s : State) : (s.takeFault f).refreshRateHz = s.refreshRateHz := rfl
@[simp] theorem State.takeFault_cps (f : Fault) (s : State) : (s.takeFault f).cps = s.cps := rfl
@[simp] theorem State.takeFault_cpvb (f : Fault) (s : State) : (s.takeFault f).cpvb = s.cpvb := rfl
@[simp] theorem State.takeFault_fieldParity (f : Fault) (s : State) : (s.takeFault f).fieldParity = s.fieldParity := rfl
@[simp] theorem State.takeFault_schedPending (f : Fault) (s : State) : (s.takeFault f).schedPending = s.schedPending := rfl
@[simp] theorem State.takeFault_schedCountdown (f : Fault) (s : State) : (s.takeFault f).schedCountdown = s.schedCountdown := rfl
@[simp] theorem State.takeFault_quiet (f : Fault) (s : State) : (s.takeFault f).quiet = s.quiet := rfl
@[simp] theorem State.takeFault_cpuLine (f : Fault) (s : State) : (s.takeFault f).cpuLine = s.cpuLine := rfl
@[simp] theorem State.takeFault_faulted (f : Fault) (s : State) : (s.takeFault f).faulted = true := rfl
@[simp] theorem State.takeFault_refused (f : Fault) (s : State) : (s.takeFault f).refused = s.refused := rfl
@[simp] theorem State.takeFault_draws (f : Fault) (s : State) : (s.takeFault f).draws = s.draws := rfl
@[simp] theorem State.takeFault_input (f : Fault) (s : State) : (s.takeFault f).input = s.input := rfl
@[simp] theorem State.takeFault_events (f : Fault) (s : State) : (s.takeFault f).events = [] := rfl
@[simp] theorem State.takeFault_outcome (f : Fault) (s : State) : (s.takeFault f).outcome = .fault f := rfl

@[simp] theorem State.takeRefusal_mi (f : Refusal) (s : State) : (s.takeRefusal f).mi = s.mi := rfl
@[simp] theorem State.takeRefusal_vi (f : Refusal) (s : State) : (s.takeRefusal f).vi = s.vi := rfl
@[simp] theorem State.takeRefusal_params (f : Refusal) (s : State) : (s.takeRefusal f).params = s.params := rfl
@[simp] theorem State.takeRefusal_miRaw (f : Refusal) (s : State) : (s.takeRefusal f).miRaw = s.miRaw := rfl
@[simp] theorem State.takeRefusal_viRaw (f : Refusal) (s : State) : (s.takeRefusal f).viRaw = s.viRaw := rfl
@[simp] theorem State.takeRefusal_clockHz (f : Refusal) (s : State) : (s.takeRefusal f).clockHz = s.clockHz := rfl
@[simp] theorem State.takeRefusal_refreshRateHz (f : Refusal) (s : State) : (s.takeRefusal f).refreshRateHz = s.refreshRateHz := rfl
@[simp] theorem State.takeRefusal_cps (f : Refusal) (s : State) : (s.takeRefusal f).cps = s.cps := rfl
@[simp] theorem State.takeRefusal_cpvb (f : Refusal) (s : State) : (s.takeRefusal f).cpvb = s.cpvb := rfl
@[simp] theorem State.takeRefusal_fieldParity (f : Refusal) (s : State) : (s.takeRefusal f).fieldParity = s.fieldParity := rfl
@[simp] theorem State.takeRefusal_schedPending (f : Refusal) (s : State) : (s.takeRefusal f).schedPending = s.schedPending := rfl
@[simp] theorem State.takeRefusal_schedCountdown (f : Refusal) (s : State) : (s.takeRefusal f).schedCountdown = s.schedCountdown := rfl
@[simp] theorem State.takeRefusal_quiet (f : Refusal) (s : State) : (s.takeRefusal f).quiet = s.quiet := rfl
@[simp] theorem State.takeRefusal_cpuLine (f : Refusal) (s : State) : (s.takeRefusal f).cpuLine = s.cpuLine := rfl
@[simp] theorem State.takeRefusal_faulted (f : Refusal) (s : State) : (s.takeRefusal f).faulted = s.faulted := rfl
@[simp] theorem State.takeRefusal_refused (f : Refusal) (s : State) : (s.takeRefusal f).refused = true := rfl
@[simp] theorem State.takeRefusal_draws (f : Refusal) (s : State) : (s.takeRefusal f).draws = s.draws := rfl
@[simp] theorem State.takeRefusal_input (f : Refusal) (s : State) : (s.takeRefusal f).input = s.input := rfl
@[simp] theorem State.takeRefusal_events (f : Refusal) (s : State) : (s.takeRefusal f).events = [] := rfl
@[simp] theorem State.takeRefusal_outcome (f : Refusal) (s : State) : (s.takeRefusal f).outcome = .refused f := rfl

@[simp] theorem State.idleStep_mi (s : State) : s.idleStep.mi = s.mi := rfl
@[simp] theorem State.idleStep_vi (s : State) : s.idleStep.vi = s.vi := rfl
@[simp] theorem State.idleStep_params (s : State) : s.idleStep.params = s.params := rfl
@[simp] theorem State.idleStep_miRaw (s : State) : s.idleStep.miRaw = s.miRaw := rfl
@[simp] theorem State.idleStep_viRaw (s : State) : s.idleStep.viRaw = s.viRaw := rfl
@[simp] theorem State.idleStep_clockHz (s : State) : s.idleStep.clockHz = s.clockHz := rfl
@[simp] theorem State.idleStep_refreshRateHz (s : State) : s.idleStep.refreshRateHz = s.refreshRateHz := rfl
@[simp] theorem State.idleStep_cps (s : State) : s.idleStep.cps = s.cps := rfl
@[simp] theorem State.idleStep_cpvb (s : State) : s.idleStep.cpvb = s.cpvb := rfl
@[simp] theorem State.idleStep_fieldParity (s : State) : s.idleStep.fieldParity = s.fieldParity := rfl
@[simp] theorem State.idleStep_schedPending (s : State) : s.idleStep.schedPending = s.schedPending := rfl
@[simp] theorem State.idleStep_schedCountdown (s : State) : s.idleStep.schedCountdown = s.schedCountdown := rfl
@[simp] theorem State.idleStep_quiet (s : State) : s.idleStep.quiet = s.quiet := rfl
@[simp] theorem State.idleStep_cpuLine (s : State) : s.idleStep.cpuLine = s.cpuLine := rfl
@[simp] theorem State.idleStep_faulted (s : State) : s.idleStep.faulted = s.faulted := rfl
@[simp] theorem State.idleStep_refused (s : State) : s.idleStep.refused = s.refused := rfl
@[simp] theorem State.idleStep_draws (s : State) : s.idleStep.draws = s.draws := rfl
@[simp] theorem State.idleStep_input (s : State) : s.idleStep.input = s.input := rfl
@[simp] theorem State.idleStep_events (s : State) : s.idleStep.events = [] := rfl
@[simp] theorem State.idleStep_outcome (s : State) : s.idleStep.outcome = .idle := rfl

@[simp] theorem State.emit_mi (e : Event) (s : State) : (s.emit e).mi = s.mi := rfl
@[simp] theorem State.emit_vi (e : Event) (s : State) : (s.emit e).vi = s.vi := rfl
@[simp] theorem State.emit_params (e : Event) (s : State) : (s.emit e).params = s.params := rfl
@[simp] theorem State.emit_miRaw (e : Event) (s : State) : (s.emit e).miRaw = s.miRaw := rfl
@[simp] theorem State.emit_viRaw (e : Event) (s : State) : (s.emit e).viRaw = s.viRaw := rfl
@[simp] theorem State.emit_clockHz (e : Event) (s : State) : (s.emit e).clockHz = s.clockHz := rfl
@[simp] theorem State.emit_refreshRateHz (e : Event) (s : State) : (s.emit e).refreshRateHz = s.refreshRateHz := rfl
@[simp] theorem State.emit_cps (e : Event) (s : State) : (s.emit e).cps = s.cps := rfl
@[simp] theorem State.emit_cpvb (e : Event) (s : State) : (s.emit e).cpvb = s.cpvb := rfl
@[simp] theorem State.emit_fieldParity (e : Event) (s : State) : (s.emit e).fieldParity = s.fieldParity := rfl
@[simp] theorem State.emit_schedPending (e : Event) (s : State) : (s.emit e).schedPending = s.schedPending := rfl
@[simp] theorem State.emit_schedCountdown (e : Event) (s : State) : (s.emit e).schedCountdown = s.schedCountdown := rfl
@[simp] theorem State.emit_quiet (e : Event) (s : State) : (s.emit e).quiet = s.quiet := rfl
@[simp] theorem State.emit_cpuLine (e : Event) (s : State) : (s.emit e).cpuLine = s.cpuLine := rfl
@[simp] theorem State.emit_faulted (e : Event) (s : State) : (s.emit e).faulted = s.faulted := rfl
@[simp] theorem State.emit_refused (e : Event) (s : State) : (s.emit e).refused = s.refused := rfl
@[simp] theorem State.emit_draws (e : Event) (s : State) : (s.emit e).draws = s.draws := rfl
@[simp] theorem State.emit_input (e : Event) (s : State) : (s.emit e).input = s.input := rfl
@[simp] theorem State.emit_events (e : Event) (s : State) : (s.emit e).events = s.events ++ [e] := rfl
@[simp] theorem State.emit_outcome (e : Event) (s : State) : (s.emit e).outcome = s.outcome := rfl

@[simp] theorem State.notify_mi (s : State) : s.notify.mi = s.mi := rfl
@[simp] theorem State.notify_vi (s : State) : s.notify.vi = s.vi := rfl
@[simp] theorem State.notify_params (s : State) : s.notify.params = s.params := rfl
@[simp] theorem State.notify_miRaw (s : State) : s.notify.miRaw = s.miRaw := rfl
@[simp] theorem State.notify_viRaw (s : State) : s.notify.viRaw = s.viRaw := rfl
@[simp] theorem State.notify_clockHz (s : State) : s.notify.clockHz = s.clockHz := rfl
@[simp] theorem State.notify_refreshRateHz (s : State) : s.notify.refreshRateHz = s.refreshRateHz := rfl
@[simp] theorem State.notify_cps (s : State) : s.notify.cps = s.cps := rfl
@[simp] theorem State.notify_cpvb (s : State) : s.notify.cpvb = s.cpvb := rfl
@[simp] theorem State.notify_fieldParity (s : State) : s.notify.fieldParity = s.fieldParity := rfl
@[simp] theorem State.notify_schedPending (s : State) : s.notify.schedPending = s.schedPending := rfl
@[simp] theorem State.notify_schedCountdown (s : State) : s.notify.schedCountdown = s.schedCountdown := rfl
@[simp] theorem State.notify_quiet (s : State) : s.notify.quiet = s.quiet := rfl
@[simp] theorem State.notify_cpuLine (s : State) : s.notify.cpuLine = s.line := rfl
@[simp] theorem State.notify_faulted (s : State) : s.notify.faulted = s.faulted := rfl
@[simp] theorem State.notify_refused (s : State) : s.notify.refused = s.refused := rfl
@[simp] theorem State.notify_draws (s : State) : s.notify.draws = s.draws := rfl
@[simp] theorem State.notify_input (s : State) : s.notify.input = s.input := rfl
@[simp] theorem State.notify_events (s : State) : s.notify.events = s.events ++ [.notify] := rfl
@[simp] theorem State.notify_outcome (s : State) : s.notify.outcome = s.outcome := rfl

@[simp] theorem State.scheduleVbl_mi (n : Nat) (s : State) : (s.scheduleVbl n).mi = s.mi := rfl
@[simp] theorem State.scheduleVbl_vi (n : Nat) (s : State) : (s.scheduleVbl n).vi = s.vi := rfl
@[simp] theorem State.scheduleVbl_params (n : Nat) (s : State) : (s.scheduleVbl n).params = s.params := rfl
@[simp] theorem State.scheduleVbl_miRaw (n : Nat) (s : State) : (s.scheduleVbl n).miRaw = s.miRaw := rfl
@[simp] theorem State.scheduleVbl_viRaw (n : Nat) (s : State) : (s.scheduleVbl n).viRaw = s.viRaw := rfl
@[simp] theorem State.scheduleVbl_clockHz (n : Nat) (s : State) : (s.scheduleVbl n).clockHz = s.clockHz := rfl
@[simp] theorem State.scheduleVbl_refreshRateHz (n : Nat) (s : State) : (s.scheduleVbl n).refreshRateHz = s.refreshRateHz := rfl
@[simp] theorem State.scheduleVbl_cps (n : Nat) (s : State) : (s.scheduleVbl n).cps = s.cps := rfl
@[simp] theorem State.scheduleVbl_cpvb (n : Nat) (s : State) : (s.scheduleVbl n).cpvb = s.cpvb := rfl
@[simp] theorem State.scheduleVbl_fieldParity (n : Nat) (s : State) : (s.scheduleVbl n).fieldParity = s.fieldParity := rfl
@[simp] theorem State.scheduleVbl_schedPending (n : Nat) (s : State) : (s.scheduleVbl n).schedPending = true := rfl
@[simp] theorem State.scheduleVbl_schedCountdown (n : Nat) (s : State) : (s.scheduleVbl n).schedCountdown = (n : Int) := rfl
@[simp] theorem State.scheduleVbl_quiet (n : Nat) (s : State) : (s.scheduleVbl n).quiet = s.quiet := rfl
@[simp] theorem State.scheduleVbl_cpuLine (n : Nat) (s : State) : (s.scheduleVbl n).cpuLine = s.cpuLine := rfl
@[simp] theorem State.scheduleVbl_faulted (n : Nat) (s : State) : (s.scheduleVbl n).faulted = s.faulted := rfl
@[simp] theorem State.scheduleVbl_refused (n : Nat) (s : State) : (s.scheduleVbl n).refused = s.refused := rfl
@[simp] theorem State.scheduleVbl_draws (n : Nat) (s : State) : (s.scheduleVbl n).draws = s.draws := rfl
@[simp] theorem State.scheduleVbl_input (n : Nat) (s : State) : (s.scheduleVbl n).input = s.input := rfl
@[simp] theorem State.scheduleVbl_events (n : Nat) (s : State) : (s.scheduleVbl n).events = s.events ++ [.schedule n] := rfl
@[simp] theorem State.scheduleVbl_outcome (n : Nat) (s : State) : (s.scheduleVbl n).outcome = s.outcome := rfl

@[simp] theorem State.spendDraw_mi (s : State) : s.spendDraw.mi = s.mi := rfl
@[simp] theorem State.spendDraw_vi (s : State) : s.spendDraw.vi = s.vi := rfl
@[simp] theorem State.spendDraw_params (s : State) : s.spendDraw.params = s.params := rfl
@[simp] theorem State.spendDraw_miRaw (s : State) : s.spendDraw.miRaw = s.miRaw := rfl
@[simp] theorem State.spendDraw_viRaw (s : State) : s.spendDraw.viRaw = s.viRaw := rfl
@[simp] theorem State.spendDraw_clockHz (s : State) : s.spendDraw.clockHz = s.clockHz := rfl
@[simp] theorem State.spendDraw_refreshRateHz (s : State) : s.spendDraw.refreshRateHz = s.refreshRateHz := rfl
@[simp] theorem State.spendDraw_cps (s : State) : s.spendDraw.cps = s.cps := rfl
@[simp] theorem State.spendDraw_cpvb (s : State) : s.spendDraw.cpvb = s.cpvb := rfl
@[simp] theorem State.spendDraw_fieldParity (s : State) : s.spendDraw.fieldParity = s.fieldParity := rfl
@[simp] theorem State.spendDraw_schedPending (s : State) : s.spendDraw.schedPending = s.schedPending := rfl
@[simp] theorem State.spendDraw_schedCountdown (s : State) : s.spendDraw.schedCountdown = s.schedCountdown := rfl
@[simp] theorem State.spendDraw_quiet (s : State) : s.spendDraw.quiet = s.quiet := rfl
@[simp] theorem State.spendDraw_cpuLine (s : State) : s.spendDraw.cpuLine = s.cpuLine := rfl
@[simp] theorem State.spendDraw_faulted (s : State) : s.spendDraw.faulted = s.faulted := rfl
@[simp] theorem State.spendDraw_refused (s : State) : s.spendDraw.refused = s.refused := rfl
@[simp] theorem State.spendDraw_draws (s : State) : s.spendDraw.draws = if s.cps = 0 then s.draws + 1 else s.draws := rfl
@[simp] theorem State.spendDraw_input (s : State) : s.spendDraw.input = s.input := rfl
@[simp] theorem State.spendDraw_events (s : State) : s.spendDraw.events = s.events := rfl
@[simp] theorem State.spendDraw_outcome (s : State) : s.spendDraw.outcome = s.outcome := rfl

@[simp] theorem State.retime_mi (d : Word) (s : State) : (s.retime d).mi = s.mi := rfl
@[simp] theorem State.retime_vi (d : Word) (s : State) : (s.retime d).vi = s.vi := rfl
@[simp] theorem State.retime_params (d : Word) (s : State) : (s.retime d).params = s.params := rfl
@[simp] theorem State.retime_miRaw (d : Word) (s : State) : (s.retime d).miRaw = s.miRaw := rfl
@[simp] theorem State.retime_viRaw (d : Word) (s : State) : (s.retime d).viRaw = s.viRaw := rfl
@[simp] theorem State.retime_clockHz (d : Word) (s : State) : (s.retime d).clockHz = s.clockHz := rfl
@[simp] theorem State.retime_refreshRateHz (d : Word) (s : State) : (s.retime d).refreshRateHz = s.refreshRateHz := rfl
@[simp] theorem State.retime_cps (d : Word) (s : State) : (s.retime d).cps = (timing s.clockHz s.refreshRateHz d.toNat).1 := rfl
@[simp] theorem State.retime_cpvb (d : Word) (s : State) : (s.retime d).cpvb = (timing s.clockHz s.refreshRateHz d.toNat).2 := rfl
@[simp] theorem State.retime_fieldParity (d : Word) (s : State) : (s.retime d).fieldParity = s.fieldParity := rfl
@[simp] theorem State.retime_schedPending (d : Word) (s : State) : (s.retime d).schedPending = s.schedPending := rfl
@[simp] theorem State.retime_schedCountdown (d : Word) (s : State) : (s.retime d).schedCountdown = s.schedCountdown := rfl
@[simp] theorem State.retime_quiet (d : Word) (s : State) : (s.retime d).quiet = s.quiet := rfl
@[simp] theorem State.retime_cpuLine (d : Word) (s : State) : (s.retime d).cpuLine = s.cpuLine := rfl
@[simp] theorem State.retime_faulted (d : Word) (s : State) : (s.retime d).faulted = s.faulted := rfl
@[simp] theorem State.retime_refused (d : Word) (s : State) : (s.retime d).refused = s.refused := rfl
@[simp] theorem State.retime_draws (d : Word) (s : State) : (s.retime d).draws = s.draws := rfl
@[simp] theorem State.retime_input (d : Word) (s : State) : (s.retime d).input = s.input := rfl
@[simp] theorem State.retime_events (d : Word) (s : State) : (s.retime d).events = s.events := rfl
@[simp] theorem State.retime_outcome (d : Word) (s : State) : (s.retime d).outcome = s.outcome := rfl

@[simp] theorem State.enterVbl_mi (s : State) : s.enterVbl.mi = s.mi := rfl
@[simp] theorem State.enterVbl_vi (s : State) : s.enterVbl.vi = s.vi := rfl
@[simp] theorem State.enterVbl_params (s : State) : s.enterVbl.params = s.params := rfl
@[simp] theorem State.enterVbl_miRaw (s : State) : s.enterVbl.miRaw = s.miRaw := rfl
@[simp] theorem State.enterVbl_viRaw (s : State) : s.enterVbl.viRaw = s.viRaw := rfl
@[simp] theorem State.enterVbl_clockHz (s : State) : s.enterVbl.clockHz = s.clockHz := rfl
@[simp] theorem State.enterVbl_refreshRateHz (s : State) : s.enterVbl.refreshRateHz = s.refreshRateHz := rfl
@[simp] theorem State.enterVbl_cps (s : State) : s.enterVbl.cps = s.cps := rfl
@[simp] theorem State.enterVbl_cpvb (s : State) : s.enterVbl.cpvb = s.cpvb := rfl
@[simp] theorem State.enterVbl_fieldParity (s : State) : s.enterVbl.fieldParity = s.nextParity := rfl
@[simp] theorem State.enterVbl_schedPending (s : State) : s.enterVbl.schedPending = false := rfl
@[simp] theorem State.enterVbl_schedCountdown (s : State) : s.enterVbl.schedCountdown = s.schedCountdown := rfl
@[simp] theorem State.enterVbl_quiet (s : State) : s.enterVbl.quiet = s.quiet := rfl
@[simp] theorem State.enterVbl_cpuLine (s : State) : s.enterVbl.cpuLine = s.cpuLine := rfl
@[simp] theorem State.enterVbl_faulted (s : State) : s.enterVbl.faulted = s.faulted := rfl
@[simp] theorem State.enterVbl_refused (s : State) : s.enterVbl.refused = s.refused := rfl
@[simp] theorem State.enterVbl_draws (s : State) : s.enterVbl.draws = s.draws := rfl
@[simp] theorem State.enterVbl_input (s : State) : s.enterVbl.input = s.input := rfl
@[simp] theorem State.enterVbl_events (s : State) : s.enterVbl.events = s.events := rfl
@[simp] theorem State.enterVbl_outcome (s : State) : s.enterVbl.outcome = s.outcome := rfl

@[simp] theorem State.presentFrame_mi (s : State) : s.presentFrame.mi = s.mi := rfl
@[simp] theorem State.presentFrame_vi (s : State) : s.presentFrame.vi = s.vi := rfl
@[simp] theorem State.presentFrame_params (s : State) : s.presentFrame.params = s.params := rfl
@[simp] theorem State.presentFrame_miRaw (s : State) : s.presentFrame.miRaw = s.miRaw := rfl
@[simp] theorem State.presentFrame_viRaw (s : State) : s.presentFrame.viRaw = s.viRaw := rfl
@[simp] theorem State.presentFrame_clockHz (s : State) : s.presentFrame.clockHz = s.clockHz := rfl
@[simp] theorem State.presentFrame_refreshRateHz (s : State) : s.presentFrame.refreshRateHz = s.refreshRateHz := rfl
@[simp] theorem State.presentFrame_cps (s : State) : s.presentFrame.cps = s.cps := rfl
@[simp] theorem State.presentFrame_cpvb (s : State) : s.presentFrame.cpvb = s.cpvb := rfl
@[simp] theorem State.presentFrame_fieldParity (s : State) : s.presentFrame.fieldParity = s.fieldParity := rfl
@[simp] theorem State.presentFrame_schedPending (s : State) : s.presentFrame.schedPending = s.schedPending := rfl
@[simp] theorem State.presentFrame_schedCountdown (s : State) : s.presentFrame.schedCountdown = s.schedCountdown := rfl
@[simp] theorem State.presentFrame_quiet (s : State) : s.presentFrame.quiet = s.quiet := rfl
@[simp] theorem State.presentFrame_cpuLine (s : State) : s.presentFrame.cpuLine = s.cpuLine := rfl
@[simp] theorem State.presentFrame_faulted (s : State) : s.presentFrame.faulted = s.faulted := rfl
@[simp] theorem State.presentFrame_refused (s : State) : s.presentFrame.refused = s.refused := rfl
@[simp] theorem State.presentFrame_draws (s : State) : s.presentFrame.draws = s.draws := rfl
@[simp] theorem State.presentFrame_input (s : State) : s.presentFrame.input = s.input := rfl
@[simp] theorem State.presentFrame_events (s : State) : s.presentFrame.events = s.events ++ [.present (s.viReg .dramAddr) (s.viReg .hWidth) (s.viReg .control)] ++ [.yield] := rfl
@[simp] theorem State.presentFrame_outcome (s : State) : s.presentFrame.outcome = s.outcome := rfl

@[simp] theorem State.withoutOutputs_mi (s : State) : s.withoutOutputs.mi = s.mi := rfl
@[simp] theorem State.withoutOutputs_vi (s : State) : s.withoutOutputs.vi = s.vi := rfl
@[simp] theorem State.withoutOutputs_params (s : State) : s.withoutOutputs.params = s.params := rfl
@[simp] theorem State.withoutOutputs_miRaw (s : State) : s.withoutOutputs.miRaw = s.miRaw := rfl
@[simp] theorem State.withoutOutputs_viRaw (s : State) : s.withoutOutputs.viRaw = s.viRaw := rfl
@[simp] theorem State.withoutOutputs_clockHz (s : State) : s.withoutOutputs.clockHz = s.clockHz := rfl
@[simp] theorem State.withoutOutputs_refreshRateHz (s : State) : s.withoutOutputs.refreshRateHz = s.refreshRateHz := rfl
@[simp] theorem State.withoutOutputs_cps (s : State) : s.withoutOutputs.cps = s.cps := rfl
@[simp] theorem State.withoutOutputs_cpvb (s : State) : s.withoutOutputs.cpvb = s.cpvb := rfl
@[simp] theorem State.withoutOutputs_fieldParity (s : State) : s.withoutOutputs.fieldParity = s.fieldParity := rfl
@[simp] theorem State.withoutOutputs_schedPending (s : State) : s.withoutOutputs.schedPending = s.schedPending := rfl
@[simp] theorem State.withoutOutputs_schedCountdown (s : State) : s.withoutOutputs.schedCountdown = s.schedCountdown := rfl
@[simp] theorem State.withoutOutputs_quiet (s : State) : s.withoutOutputs.quiet = s.quiet := rfl
@[simp] theorem State.withoutOutputs_cpuLine (s : State) : s.withoutOutputs.cpuLine = s.cpuLine := rfl
@[simp] theorem State.withoutOutputs_faulted (s : State) : s.withoutOutputs.faulted = s.faulted := rfl
@[simp] theorem State.withoutOutputs_refused (s : State) : s.withoutOutputs.refused = s.refused := rfl
@[simp] theorem State.withoutOutputs_draws (s : State) : s.withoutOutputs.draws = s.draws := rfl
@[simp] theorem State.withoutOutputs_input (s : State) : s.withoutOutputs.input = s.input := rfl
@[simp] theorem State.withoutOutputs_events (s : State) : s.withoutOutputs.events = [] := rfl
@[simp] theorem State.withoutOutputs_outcome (s : State) : s.withoutOutputs.outcome = .idle := rfl

@[simp] theorem State.withQuiet_mi (q : Bool) (s : State) : (s.withQuiet q).mi = s.mi := rfl
@[simp] theorem State.withQuiet_vi (q : Bool) (s : State) : (s.withQuiet q).vi = s.vi := rfl
@[simp] theorem State.withQuiet_params (q : Bool) (s : State) : (s.withQuiet q).params = s.params := rfl
@[simp] theorem State.withQuiet_miRaw (q : Bool) (s : State) : (s.withQuiet q).miRaw = s.miRaw := rfl
@[simp] theorem State.withQuiet_viRaw (q : Bool) (s : State) : (s.withQuiet q).viRaw = s.viRaw := rfl
@[simp] theorem State.withQuiet_clockHz (q : Bool) (s : State) : (s.withQuiet q).clockHz = s.clockHz := rfl
@[simp] theorem State.withQuiet_refreshRateHz (q : Bool) (s : State) : (s.withQuiet q).refreshRateHz = s.refreshRateHz := rfl
@[simp] theorem State.withQuiet_cps (q : Bool) (s : State) : (s.withQuiet q).cps = s.cps := rfl
@[simp] theorem State.withQuiet_cpvb (q : Bool) (s : State) : (s.withQuiet q).cpvb = s.cpvb := rfl
@[simp] theorem State.withQuiet_fieldParity (q : Bool) (s : State) : (s.withQuiet q).fieldParity = s.fieldParity := rfl
@[simp] theorem State.withQuiet_schedPending (q : Bool) (s : State) : (s.withQuiet q).schedPending = s.schedPending := rfl
@[simp] theorem State.withQuiet_schedCountdown (q : Bool) (s : State) : (s.withQuiet q).schedCountdown = s.schedCountdown := rfl
@[simp] theorem State.withQuiet_quiet (q : Bool) (s : State) : (s.withQuiet q).quiet = q := rfl
@[simp] theorem State.withQuiet_cpuLine (q : Bool) (s : State) : (s.withQuiet q).cpuLine = s.cpuLine := rfl
@[simp] theorem State.withQuiet_faulted (q : Bool) (s : State) : (s.withQuiet q).faulted = s.faulted := rfl
@[simp] theorem State.withQuiet_refused (q : Bool) (s : State) : (s.withQuiet q).refused = s.refused := rfl
@[simp] theorem State.withQuiet_draws (q : Bool) (s : State) : (s.withQuiet q).draws = s.draws := rfl
@[simp] theorem State.withQuiet_input (q : Bool) (s : State) : (s.withQuiet q).input = s.input := rfl
@[simp] theorem State.withQuiet_events (q : Bool) (s : State) : (s.withQuiet q).events = s.events := rfl
@[simp] theorem State.withQuiet_outcome (q : Bool) (s : State) : (s.withQuiet q).outcome = s.outcome := rfl

@[simp] theorem State.resetTo_mi (tv : BitVec 8) (s : State) : (s.resetTo tv).mi = #v[0, s.params.miVersion, 0, 0] := rfl
@[simp] theorem State.resetTo_vi (tv : BitVec 8) (s : State) : (s.resetTo tv).vi = Vector.replicate Config.viWords 0 := rfl
@[simp] theorem State.resetTo_params (tv : BitVec 8) (s : State) : (s.resetTo tv).params = s.params := rfl
@[simp] theorem State.resetTo_miRaw (tv : BitVec 8) (s : State) : (s.resetTo tv).miRaw = List.replicate s.params.miRawWords 0 := rfl
@[simp] theorem State.resetTo_viRaw (tv : BitVec 8) (s : State) : (s.resetTo tv).viRaw = List.replicate s.params.viRawWords 0 := rfl
@[simp] theorem State.resetTo_clockHz (tv : BitVec 8) (s : State) : (s.resetTo tv).clockHz = clockOf s.params tv := rfl
@[simp] theorem State.resetTo_refreshRateHz (tv : BitVec 8) (s : State) : (s.resetTo tv).refreshRateHz = refreshOf s.params tv := rfl
@[simp] theorem State.resetTo_cps (tv : BitVec 8) (s : State) : (s.resetTo tv).cps = 0 := rfl
@[simp] theorem State.resetTo_cpvb (tv : BitVec 8) (s : State) : (s.resetTo tv).cpvb = 0 := rfl
@[simp] theorem State.resetTo_fieldParity (tv : BitVec 8) (s : State) : (s.resetTo tv).fieldParity = 0 := rfl
@[simp] theorem State.resetTo_schedPending (tv : BitVec 8) (s : State) : (s.resetTo tv).schedPending = false := rfl
@[simp] theorem State.resetTo_schedCountdown (tv : BitVec 8) (s : State) : (s.resetTo tv).schedCountdown = 0 := rfl
@[simp] theorem State.resetTo_quiet (tv : BitVec 8) (s : State) : (s.resetTo tv).quiet = false := rfl
@[simp] theorem State.resetTo_cpuLine (tv : BitVec 8) (s : State) : (s.resetTo tv).cpuLine = false := rfl
@[simp] theorem State.resetTo_faulted (tv : BitVec 8) (s : State) : (s.resetTo tv).faulted = s.faulted := rfl
@[simp] theorem State.resetTo_refused (tv : BitVec 8) (s : State) : (s.resetTo tv).refused = s.refused := rfl
@[simp] theorem State.resetTo_draws (tv : BitVec 8) (s : State) : (s.resetTo tv).draws = s.draws := rfl
@[simp] theorem State.resetTo_input (tv : BitVec 8) (s : State) : (s.resetTo tv).input = s.input := rfl
@[simp] theorem State.resetTo_events (tv : BitVec 8) (s : State) : (s.resetTo tv).events = [] := rfl
@[simp] theorem State.resetTo_outcome (tv : BitVec 8) (s : State) : (s.resetTo tv).outcome = .idle := rfl

@[simp] theorem State.resetTo_viReg (tv : BitVec 8) (s : State) (r : ViReg) : (s.resetTo tv).viReg r = 0 := by
  cases r <;> rfl

@[simp] theorem State.start_word (s : State) (b : Block) (i : Nat) : s.start.word b i = s.word b i := by cases b <;> rfl
@[simp] theorem State.start_miReg (s : State) (r : MiReg) : s.start.miReg r = s.miReg r := rfl
@[simp] theorem State.start_viReg (s : State) (r : ViReg) : s.start.viReg r = s.viReg r := rfl
@[simp] theorem State.start_line (s : State) : s.start.line = s.line := rfl
@[simp] theorem State.start_interlaced (s : State) : s.start.interlaced = s.interlaced := rfl

@[simp] theorem State.completed_word (v : Option ReadResult) (s : State) (b : Block) (i : Nat) : (s.completed v).word b i = s.word b i := by cases b <;> rfl
@[simp] theorem State.completed_miReg (v : Option ReadResult) (s : State) (r : MiReg) : (s.completed v).miReg r = s.miReg r := rfl
@[simp] theorem State.completed_viReg (v : Option ReadResult) (s : State) (r : ViReg) : (s.completed v).viReg r = s.viReg r := rfl
@[simp] theorem State.completed_line (v : Option ReadResult) (s : State) : (s.completed v).line = s.line := rfl
@[simp] theorem State.completed_interlaced (v : Option ReadResult) (s : State) : (s.completed v).interlaced = s.interlaced := rfl

@[simp] theorem State.takeFault_word (f : Fault) (s : State) (b : Block) (i : Nat) : (s.takeFault f).word b i = s.word b i := by cases b <;> rfl
@[simp] theorem State.takeFault_miReg (f : Fault) (s : State) (r : MiReg) : (s.takeFault f).miReg r = s.miReg r := rfl
@[simp] theorem State.takeFault_viReg (f : Fault) (s : State) (r : ViReg) : (s.takeFault f).viReg r = s.viReg r := rfl
@[simp] theorem State.takeFault_line (f : Fault) (s : State) : (s.takeFault f).line = s.line := rfl
@[simp] theorem State.takeFault_interlaced (f : Fault) (s : State) : (s.takeFault f).interlaced = s.interlaced := rfl

@[simp] theorem State.takeRefusal_word (f : Refusal) (s : State) (b : Block) (i : Nat) : (s.takeRefusal f).word b i = s.word b i := by cases b <;> rfl
@[simp] theorem State.takeRefusal_miReg (f : Refusal) (s : State) (r : MiReg) : (s.takeRefusal f).miReg r = s.miReg r := rfl
@[simp] theorem State.takeRefusal_viReg (f : Refusal) (s : State) (r : ViReg) : (s.takeRefusal f).viReg r = s.viReg r := rfl
@[simp] theorem State.takeRefusal_line (f : Refusal) (s : State) : (s.takeRefusal f).line = s.line := rfl
@[simp] theorem State.takeRefusal_interlaced (f : Refusal) (s : State) : (s.takeRefusal f).interlaced = s.interlaced := rfl

@[simp] theorem State.idleStep_word (s : State) (b : Block) (i : Nat) : s.idleStep.word b i = s.word b i := by cases b <;> rfl
@[simp] theorem State.idleStep_miReg (s : State) (r : MiReg) : s.idleStep.miReg r = s.miReg r := rfl
@[simp] theorem State.idleStep_viReg (s : State) (r : ViReg) : s.idleStep.viReg r = s.viReg r := rfl
@[simp] theorem State.idleStep_line (s : State) : s.idleStep.line = s.line := rfl
@[simp] theorem State.idleStep_interlaced (s : State) : s.idleStep.interlaced = s.interlaced := rfl

@[simp] theorem State.emit_word (e : Event) (s : State) (b : Block) (i : Nat) : (s.emit e).word b i = s.word b i := by cases b <;> rfl
@[simp] theorem State.emit_miReg (e : Event) (s : State) (r : MiReg) : (s.emit e).miReg r = s.miReg r := rfl
@[simp] theorem State.emit_viReg (e : Event) (s : State) (r : ViReg) : (s.emit e).viReg r = s.viReg r := rfl
@[simp] theorem State.emit_line (e : Event) (s : State) : (s.emit e).line = s.line := rfl
@[simp] theorem State.emit_interlaced (e : Event) (s : State) : (s.emit e).interlaced = s.interlaced := rfl

@[simp] theorem State.notify_word (s : State) (b : Block) (i : Nat) : s.notify.word b i = s.word b i := by cases b <;> rfl
@[simp] theorem State.notify_miReg (s : State) (r : MiReg) : s.notify.miReg r = s.miReg r := rfl
@[simp] theorem State.notify_viReg (s : State) (r : ViReg) : s.notify.viReg r = s.viReg r := rfl
@[simp] theorem State.notify_line (s : State) : s.notify.line = s.line := rfl
@[simp] theorem State.notify_interlaced (s : State) : s.notify.interlaced = s.interlaced := rfl

@[simp] theorem State.scheduleVbl_word (n : Nat) (s : State) (b : Block) (i : Nat) : (s.scheduleVbl n).word b i = s.word b i := by cases b <;> rfl
@[simp] theorem State.scheduleVbl_miReg (n : Nat) (s : State) (r : MiReg) : (s.scheduleVbl n).miReg r = s.miReg r := rfl
@[simp] theorem State.scheduleVbl_viReg (n : Nat) (s : State) (r : ViReg) : (s.scheduleVbl n).viReg r = s.viReg r := rfl
@[simp] theorem State.scheduleVbl_line (n : Nat) (s : State) : (s.scheduleVbl n).line = s.line := rfl
@[simp] theorem State.scheduleVbl_interlaced (n : Nat) (s : State) : (s.scheduleVbl n).interlaced = s.interlaced := rfl

@[simp] theorem State.spendDraw_word (s : State) (b : Block) (i : Nat) : s.spendDraw.word b i = s.word b i := by cases b <;> rfl
@[simp] theorem State.spendDraw_miReg (s : State) (r : MiReg) : s.spendDraw.miReg r = s.miReg r := rfl
@[simp] theorem State.spendDraw_viReg (s : State) (r : ViReg) : s.spendDraw.viReg r = s.viReg r := rfl
@[simp] theorem State.spendDraw_line (s : State) : s.spendDraw.line = s.line := rfl
@[simp] theorem State.spendDraw_interlaced (s : State) : s.spendDraw.interlaced = s.interlaced := rfl

@[simp] theorem State.retime_word (d : Word) (s : State) (b : Block) (i : Nat) : (s.retime d).word b i = s.word b i := by cases b <;> rfl
@[simp] theorem State.retime_miReg (d : Word) (s : State) (r : MiReg) : (s.retime d).miReg r = s.miReg r := rfl
@[simp] theorem State.retime_viReg (d : Word) (s : State) (r : ViReg) : (s.retime d).viReg r = s.viReg r := rfl
@[simp] theorem State.retime_line (d : Word) (s : State) : (s.retime d).line = s.line := rfl
@[simp] theorem State.retime_interlaced (d : Word) (s : State) : (s.retime d).interlaced = s.interlaced := rfl

@[simp] theorem State.enterVbl_word (s : State) (b : Block) (i : Nat) : s.enterVbl.word b i = s.word b i := by cases b <;> rfl
@[simp] theorem State.enterVbl_miReg (s : State) (r : MiReg) : s.enterVbl.miReg r = s.miReg r := rfl
@[simp] theorem State.enterVbl_viReg (s : State) (r : ViReg) : s.enterVbl.viReg r = s.viReg r := rfl
@[simp] theorem State.enterVbl_line (s : State) : s.enterVbl.line = s.line := rfl
@[simp] theorem State.enterVbl_interlaced (s : State) : s.enterVbl.interlaced = s.interlaced := rfl

@[simp] theorem State.presentFrame_word (s : State) (b : Block) (i : Nat) : s.presentFrame.word b i = s.word b i := by cases b <;> rfl
@[simp] theorem State.presentFrame_miReg (s : State) (r : MiReg) : s.presentFrame.miReg r = s.miReg r := rfl
@[simp] theorem State.presentFrame_viReg (s : State) (r : ViReg) : s.presentFrame.viReg r = s.viReg r := rfl
@[simp] theorem State.presentFrame_line (s : State) : s.presentFrame.line = s.line := rfl
@[simp] theorem State.presentFrame_interlaced (s : State) : s.presentFrame.interlaced = s.interlaced := rfl

@[simp] theorem State.withoutOutputs_word (s : State) (b : Block) (i : Nat) : s.withoutOutputs.word b i = s.word b i := by cases b <;> rfl
@[simp] theorem State.withoutOutputs_miReg (s : State) (r : MiReg) : s.withoutOutputs.miReg r = s.miReg r := rfl
@[simp] theorem State.withoutOutputs_viReg (s : State) (r : ViReg) : s.withoutOutputs.viReg r = s.viReg r := rfl
@[simp] theorem State.withoutOutputs_line (s : State) : s.withoutOutputs.line = s.line := rfl
@[simp] theorem State.withoutOutputs_interlaced (s : State) : s.withoutOutputs.interlaced = s.interlaced := rfl

@[simp] theorem State.withQuiet_word (q : Bool) (s : State) (b : Block) (i : Nat) : (s.withQuiet q).word b i = s.word b i := by cases b <;> rfl
@[simp] theorem State.withQuiet_miReg (q : Bool) (s : State) (r : MiReg) : (s.withQuiet q).miReg r = s.miReg r := rfl
@[simp] theorem State.withQuiet_viReg (q : Bool) (s : State) (r : ViReg) : (s.withQuiet q).viReg r = s.viReg r := rfl
@[simp] theorem State.withQuiet_line (q : Bool) (s : State) : (s.withQuiet q).line = s.line := rfl
@[simp] theorem State.withQuiet_interlaced (q : Bool) (s : State) : (s.withQuiet q).interlaced = s.interlaced := rfl

@[simp] theorem State.setMiReg_vi (r : MiReg) (v : Word) (s : State) : (s.setMiReg r v).vi = s.vi := rfl
@[simp] theorem State.setMiReg_params (r : MiReg) (v : Word) (s : State) : (s.setMiReg r v).params = s.params := rfl
@[simp] theorem State.setMiReg_viRaw (r : MiReg) (v : Word) (s : State) : (s.setMiReg r v).viRaw = s.viRaw := rfl
@[simp] theorem State.setMiReg_miRaw (r : MiReg) (v : Word) (s : State) : (s.setMiReg r v).miRaw = s.miRaw := by cases r <;> rfl
@[simp] theorem State.setMiReg_clockHz (r : MiReg) (v : Word) (s : State) : (s.setMiReg r v).clockHz = s.clockHz := rfl
@[simp] theorem State.setMiReg_refreshRateHz (r : MiReg) (v : Word) (s : State) : (s.setMiReg r v).refreshRateHz = s.refreshRateHz := rfl
@[simp] theorem State.setMiReg_cps (r : MiReg) (v : Word) (s : State) : (s.setMiReg r v).cps = s.cps := rfl
@[simp] theorem State.setMiReg_cpvb (r : MiReg) (v : Word) (s : State) : (s.setMiReg r v).cpvb = s.cpvb := rfl
@[simp] theorem State.setMiReg_fieldParity (r : MiReg) (v : Word) (s : State) : (s.setMiReg r v).fieldParity = s.fieldParity := rfl
@[simp] theorem State.setMiReg_schedPending (r : MiReg) (v : Word) (s : State) : (s.setMiReg r v).schedPending = s.schedPending := rfl
@[simp] theorem State.setMiReg_schedCountdown (r : MiReg) (v : Word) (s : State) : (s.setMiReg r v).schedCountdown = s.schedCountdown := rfl
@[simp] theorem State.setMiReg_quiet (r : MiReg) (v : Word) (s : State) : (s.setMiReg r v).quiet = s.quiet := rfl
@[simp] theorem State.setMiReg_cpuLine (r : MiReg) (v : Word) (s : State) : (s.setMiReg r v).cpuLine = s.cpuLine := rfl
@[simp] theorem State.setMiReg_faulted (r : MiReg) (v : Word) (s : State) : (s.setMiReg r v).faulted = s.faulted := rfl
@[simp] theorem State.setMiReg_refused (r : MiReg) (v : Word) (s : State) : (s.setMiReg r v).refused = s.refused := rfl
@[simp] theorem State.setMiReg_draws (r : MiReg) (v : Word) (s : State) : (s.setMiReg r v).draws = s.draws := rfl
@[simp] theorem State.setMiReg_input (r : MiReg) (v : Word) (s : State) : (s.setMiReg r v).input = s.input := rfl
@[simp] theorem State.setMiReg_events (r : MiReg) (v : Word) (s : State) : (s.setMiReg r v).events = s.events := rfl
@[simp] theorem State.setMiReg_outcome (r : MiReg) (v : Word) (s : State) : (s.setMiReg r v).outcome = s.outcome := rfl
@[simp] theorem State.setMiReg_viReg (r : MiReg) (q : ViReg) (v : Word) (s : State) : (s.setMiReg r v).viReg q = s.viReg q := rfl

@[simp] theorem State.setViReg_mi (r : ViReg) (v : Word) (s : State) : (s.setViReg r v).mi = s.mi := rfl
@[simp] theorem State.setViReg_params (r : ViReg) (v : Word) (s : State) : (s.setViReg r v).params = s.params := rfl
@[simp] theorem State.setViReg_miRaw (r : ViReg) (v : Word) (s : State) : (s.setViReg r v).miRaw = s.miRaw := rfl
@[simp] theorem State.setViReg_viRaw (r : ViReg) (v : Word) (s : State) : (s.setViReg r v).viRaw = s.viRaw := by cases r <;> rfl
@[simp] theorem State.setViReg_clockHz (r : ViReg) (v : Word) (s : State) : (s.setViReg r v).clockHz = s.clockHz := rfl
@[simp] theorem State.setViReg_refreshRateHz (r : ViReg) (v : Word) (s : State) : (s.setViReg r v).refreshRateHz = s.refreshRateHz := rfl
@[simp] theorem State.setViReg_cps (r : ViReg) (v : Word) (s : State) : (s.setViReg r v).cps = s.cps := rfl
@[simp] theorem State.setViReg_cpvb (r : ViReg) (v : Word) (s : State) : (s.setViReg r v).cpvb = s.cpvb := rfl
@[simp] theorem State.setViReg_fieldParity (r : ViReg) (v : Word) (s : State) : (s.setViReg r v).fieldParity = s.fieldParity := rfl
@[simp] theorem State.setViReg_schedPending (r : ViReg) (v : Word) (s : State) : (s.setViReg r v).schedPending = s.schedPending := rfl
@[simp] theorem State.setViReg_schedCountdown (r : ViReg) (v : Word) (s : State) : (s.setViReg r v).schedCountdown = s.schedCountdown := rfl
@[simp] theorem State.setViReg_quiet (r : ViReg) (v : Word) (s : State) : (s.setViReg r v).quiet = s.quiet := rfl
@[simp] theorem State.setViReg_cpuLine (r : ViReg) (v : Word) (s : State) : (s.setViReg r v).cpuLine = s.cpuLine := rfl
@[simp] theorem State.setViReg_faulted (r : ViReg) (v : Word) (s : State) : (s.setViReg r v).faulted = s.faulted := rfl
@[simp] theorem State.setViReg_refused (r : ViReg) (v : Word) (s : State) : (s.setViReg r v).refused = s.refused := rfl
@[simp] theorem State.setViReg_draws (r : ViReg) (v : Word) (s : State) : (s.setViReg r v).draws = s.draws := rfl
@[simp] theorem State.setViReg_input (r : ViReg) (v : Word) (s : State) : (s.setViReg r v).input = s.input := rfl
@[simp] theorem State.setViReg_events (r : ViReg) (v : Word) (s : State) : (s.setViReg r v).events = s.events := rfl
@[simp] theorem State.setViReg_outcome (r : ViReg) (v : Word) (s : State) : (s.setViReg r v).outcome = s.outcome := rfl
@[simp] theorem State.setViReg_miReg (r : ViReg) (q : MiReg) (v : Word) (s : State) : (s.setViReg r v).miReg q = s.miReg q := rfl

/-- A backing store holds as many words as its length parameter says, where the undecoded words do (R6). -/
theorem State.store_length (b : Block) (s : State) (h : s.storesFit = true) :
    4 * (s.store b).length = blockLen s.params b := by
  simp only [State.storesFit, Bool.and_eq_true, beq_iff_eq] at h
  cases b <;> simp [State.store, blockLen, Params.miLen, Params.viLen, h.1, h.2]

/-- A word of a store is the word at its place in the whole store. -/
theorem State.word_store (b : Block) (i : Nat) (s : State) : s.word b i = (s.store b)[i]?.getD 0 := by
  cases b <;> simp only [State.word, State.store, List.getElem?_append, Vector.length_toList] <;> split <;> simp [*]

/-- Reading a word after a write, of a store as its two parts: the registers, and the undecoded words above them. -/
theorem store_set_get {n : Nat} (m : Vector Word n) (raw : List Word) (i j : Nat) (v : Word) (h : i < n + raw.length) :
    (m.setIfInBounds i v)[j]?.getD ((if i < n then raw else raw.set (i - n) v)[j - n]?.getD 0) =
      if i = j then v else m[j]?.getD (raw[j - n]?.getD 0) := by
  rw [Vector.getElem?_setIfInBounds]
  by_cases hi : i < n <;> by_cases e : i = j
  · subst e; simp [hi]
  · simp [hi, e]
  · subst e
    have h1 : i - n < raw.length := by omega
    simp [hi, h1]
  · by_cases hj : j < n
    · simp [e, hj]
    · have h2 : i - n ≠ j - n := by omega
      simp [hi, e, h2]

/-- Reading a word of a store after a write of a word of it: the written word, or the word that stood there. -/
theorem State.setWord_word (b : Block) (i j : Nat) (v : Word) (s : State) (h : i < (s.store b).length) :
    (s.setWord b i v).word b j = if i = j then v else s.word b j := by
  cases b <;> simp only [State.store, List.length_append, Vector.length_toList] at h <;> exact store_set_get _ _ i j v h

/-- A write to one block's store leaves the other block's. -/
theorem State.setWord_word_other (b c : Block) (i j : Nat) (v : Word) (s : State) (h : b ≠ c) :
    (s.setWord b i v).word c j = s.word c j := by
  cases b <;> cases c <;> first | contradiction | rfl

/-- A register write changes its block's registers and no undecoded word. -/
theorem State.setMiReg_eq (r : MiReg) (v : Word) (s : State) :
    s.setMiReg r v = { s with mi := s.mi.setIfInBounds (miOffset r / 4) v } := by cases r <;> rfl

theorem State.setViReg_eq (r : ViReg) (v : Word) (s : State) :
    s.setViReg r v = { s with vi := s.vi.setIfInBounds (viOffset r / 4) v } := by cases r <;> rfl

/-- Reading an MI register after a write of one: the written word, or the word that stood there. -/
@[simp] theorem State.setMiReg_miReg (r q : MiReg) (v : Word) (s : State) :
    (s.setMiReg r v).miReg q = if q = r then v else s.miReg q := by
  unfold State.miReg State.setMiReg
  rw [State.setWord_word _ _ _ _ _ (by cases r <;> simp [State.store, miOffset, Config.miWords] <;> omega)]
  cases r <;> cases q <;> rfl

/-- Reading a VI register after a write of one: the written word, or the word that stood there. -/
@[simp] theorem State.setViReg_viReg (r q : ViReg) (v : Word) (s : State) :
    (s.setViReg r v).viReg q = if q = r then v else s.viReg q := by
  unfold State.viReg State.setViReg
  rw [State.setWord_word _ _ _ _ _ (by cases r <;> simp [State.store, viOffset, Config.viWords] <;> omega)]
  cases r <;> cases q <;> rfl

/-- A VI write leaves the interrupt line. -/
@[simp] theorem State.setViReg_line (r : ViReg) (v : Word) (s : State) : (s.setViReg r v).line = s.line := rfl

/-- The state after RESET holds the reset values of R43 in the MI registers. -/
@[simp] theorem State.resetTo_miReg (tv : BitVec 8) (s : State) (r : MiReg) :
    (s.resetTo tv).miReg r = if r = .version then s.params.miVersion else 0 := by
  cases r <;> rfl

end Sys2Proof.Machine
end

