-- ==== Sys2Proof/Laws/RegisterBlock.lean ====
section
/-! SUPPORT. What the register-block operations can do (R120 to R124): at any offset, and at a register's own offset. -/

namespace Sys2Proof.Machine

/-- An operation passes its check exactly at the offsets in bounds. -/
theorem rbCheck_eq (p : Params) (b : Block) (o : Int) :
    rbCheck p b o = if inBounds p b o 4 then .ok () else .error (.fault (.boundsError (busAddress p b o) 4)) := rfl

theorem rbReadWord_ok (b : Block) (o : Int) (s : State) (h : inBounds s.params b o 4 = true) :
    rbReadWord b o s = .ok (s.word b (o.toNat / 4)) := by
  simp [rbReadWord, rbCheck, h, bind, Except.bind, pure, Except.pure]

theorem rbWriteWord_ok (b : Block) (o : Int) (v : Word) (s : State) (h : inBounds s.params b o 4 = true) :
    rbWriteWord b o v s = .ok (s.setWord b (o.toNat / 4) v) := by
  simp [rbWriteWord, rbCheck, h, bind, Except.bind, pure, Except.pure]

theorem rbSetBits_ok (b : Block) (o : Int) (m : Word) (s : State) (h : inBounds s.params b o 4 = true) :
    rbSetBits b o m s = .ok (s.setWord b (o.toNat / 4) (s.word b (o.toNat / 4) ||| m)) := by
  simp [rbSetBits, rbCheck, h, bind, Except.bind, pure, Except.pure]

theorem rbClearBits_ok (b : Block) (o : Int) (m : Word) (s : State) (h : inBounds s.params b o 4 = true) :
    rbClearBits b o m s = .ok (s.setWord b (o.toNat / 4) (s.word b (o.toNat / 4) &&& ~~~m)) := by
  simp [rbClearBits, rbCheck, h, bind, Except.bind, pure, Except.pure]

/-- Out of bounds, every operation fails with the bus address and nothing else happens. -/
theorem rbReadWord_err (b : Block) (o : Int) (s : State) (h : inBounds s.params b o 4 = false) :
    rbReadWord b o s = .error (.fault (.boundsError (busAddress s.params b o) 4)) := by
  simp [rbReadWord, rbCheck, h, bind, Except.bind]

theorem rbWriteWord_err (b : Block) (o : Int) (v : Word) (s : State) (h : inBounds s.params b o 4 = false) :
    rbWriteWord b o v s = .error (.fault (.boundsError (busAddress s.params b o) 4)) := by
  simp [rbWriteWord, rbCheck, h, bind, Except.bind]

/-- The offset of every MI register is in bounds. -/
@[simp] theorem inBounds_miOffset (p : Params) (r : MiReg) : inBounds p .mi (miOffset r) 4 = true :=
  inBounds_of_reference p _ _ _ (by cases r <;> decide)

/-- The offset of every VI register is in bounds. -/
@[simp] theorem inBounds_viOffset (p : Params) (r : ViReg) : inBounds p .vi (viOffset r) 4 = true :=
  inBounds_of_reference p _ _ _ (by cases r <;> decide)

@[simp] theorem rbReadWord_mi (r : MiReg) (s : State) : rbReadWord .mi (miOffset r) s = .ok (s.miReg r) :=
  rbReadWord_ok _ _ _ (inBounds_miOffset _ r)

@[simp] theorem rbReadWord_vi (r : ViReg) (s : State) : rbReadWord .vi (viOffset r) s = .ok (s.viReg r) :=
  rbReadWord_ok _ _ _ (inBounds_viOffset _ r)

@[simp] theorem rbWriteWord_mi (r : MiReg) (v : Word) (s : State) :
    rbWriteWord .mi (miOffset r) v s = .ok (s.setMiReg r v) :=
  rbWriteWord_ok _ _ _ _ (inBounds_miOffset _ r)

@[simp] theorem rbWriteWord_vi (r : ViReg) (v : Word) (s : State) :
    rbWriteWord .vi (viOffset r) v s = .ok (s.setViReg r v) :=
  rbWriteWord_ok _ _ _ _ (inBounds_viOffset _ r)

@[simp] theorem rbSetBits_mi (r : MiReg) (m : Word) (s : State) :
    rbSetBits .mi (miOffset r) m s = .ok (s.setMiReg r (s.miReg r ||| m)) :=
  rbSetBits_ok _ _ _ _ (inBounds_miOffset _ r)

@[simp] theorem rbClearBits_mi (r : MiReg) (m : Word) (s : State) :
    rbClearBits .mi (miOffset r) m s = .ok (s.setMiReg r (s.miReg r &&& ~~~m)) :=
  rbClearBits_ok _ _ _ _ (inBounds_miOffset _ r)

end Sys2Proof.Machine
end

