-- ==== Sys2Proof/Laws/Ops.lean ====
section
/-! SUPPORT. What each shared operation can do, said once: the source operations, the arm decision, the vertical-blank
handler, the bus forms, and the answer of a transaction. -/

namespace Sys2Proof.Machine

@[simp] theorem State.commit_ok (s t : State) : s.commit (.ok t) = .next t := rfl

@[simp] theorem State.commit_fault (s : State) (f : Fault) :
    s.commit (.error (.fault f)) = .next (s.takeFault f) := rfl

@[simp] theorem State.commit_refused (s : State) (r : Refusal) :
    s.commit (.error (.refused r)) = .next (s.takeRefusal r) := rfl

/-- Every transaction answers a next state: its own result, or the state before it with the failure taken. -/
theorem State.commit_next (s t : State) (x : Except Abort State) (h : s.commit x = .next t) :
    x = .ok t ∨ (∃ f, x = .error (.fault f) ∧ t = s.takeFault f) ∨ ∃ r, x = .error (.refused r) ∧ t = s.takeRefusal r := by
  match x with
  | .ok u => left; simpa using h
  | .error (.fault f) => right; left; exact ⟨f, rfl, by simpa using h.symm⟩
  | .error (.refused r) => right; right; exact ⟨r, rfl, by simpa using h.symm⟩

@[simp] theorem except_bind_ok {ε α β : Type} (a : α) (f : α → Except ε β) : (Except.ok a >>= f) = f a := rfl

@[simp] theorem except_bind_error {ε α β : Type} (e : ε) (f : α → Except ε β) :
    ((Except.error e : Except ε α) >>= f) = .error e := rfl

@[simp] theorem except_pure {ε α : Type} (a : α) : (pure a : Except ε α) = .ok a := rfl

/-- `MI.raise` never fails: the source's bit is set and the CPU is notified. -/
@[simp] theorem miRaise_eq (src : Source) (s : State) :
    miRaise src s = .ok (s.setMiReg .intr (s.miReg .intr ||| sourceBit src)).notify := by
  simp [miRaise]

/-- `MI.clear` never fails: the source's bit is cleared and the CPU is notified. -/
@[simp] theorem miClear_eq (src : Source) (s : State) :
    miClear src s = .ok (s.setMiReg .intr (s.miReg .intr &&& ~~~sourceBit src)).notify := by
  simp [miClear]

@[simp] theorem busRead_mi (r : MiReg) (form : ReadForm) (s : State) :
    busRead .mi (miOffset r) form s = .ok (s.completed (some ⟨form, s.miReg r⟩)) := by
  simp [busRead]

@[simp] theorem busRead_vi (r : ViReg) (form : ReadForm) (s : State) :
    busRead .vi (viOffset r) form s = .ok (s.completed (some ⟨form, s.viReg r⟩)) := by
  simp [busRead]

@[simp] theorem busWrite_vi (r : ViReg) (d : Word) (s : State) :
    busWrite .vi (viOffset r) d s = .ok ((s.setViReg r d).completed none) := by
  simp [busWrite]

@[simp] theorem busIgnore_eq (s : State) : busIgnore s = .ok (s.completed none) := rfl

/-- The arm decision: nothing while a callback is pending, armed when the gate passes, a diagnostic when it does not. -/
theorem arm_cases (s t : State) (h : arm s = .ok t) :
    (s.schedPending = true ∧ t = s) ∨
      (s.schedPending = false ∧ s.viReg .vIntr < s.viReg .vSync ∧ s.cpvb ≠ 0 ∧ t = s.scheduleVbl s.cpvb) ∨
      (s.schedPending = false ∧ ¬ s.viReg .vIntr < s.viReg .vSync ∧
        t = s.emit (.diag (.armDeclined (s.viReg .vIntr) (s.viReg .vSync)))) := by
  unfold arm at h
  split at h
  · left; simp_all
  · split at h
    · split at h
      · simp at h
      · right; left; simp_all
    · right; right; simp_all

/-- The arm decision fails only by `ZeroFramePeriod`, when the gate passes with cpvb = 0. -/
theorem arm_error (s : State) (a : Abort) (h : arm s = .error a) :
    a = .fault .zeroFramePeriod ∧ s.schedPending = false ∧ s.viReg .vIntr < s.viReg .vSync ∧ s.cpvb = 0 := by
  unfold arm at h
  split at h
  · simp at h
  · split at h
    · split at h
      · simp_all
      · simp at h
    · simp at h

/-- The state after a vertical blank that does not fail. -/
def State.afterVbl (s : State) : State :=
  let u := s.enterVbl.scheduleVbl s.cpvb
  (u.setMiReg .intr (u.miReg .intr ||| sourceBit .vi)).notify.presentFrame

/-- The vertical-blank handler: `ZeroFramePeriod` when cpvb = 0, else its five effects. -/
theorem onVerticalBlank_eq (s : State) :
    onVerticalBlank s = if s.cpvb = 0 then .error (.fault .zeroFramePeriod) else .ok s.afterVbl := by
  by_cases h : s.cpvb = 0 <;> simp [onVerticalBlank, h, State.afterVbl]

/-- A row of an MI read returns the stored word and does nothing else. -/
theorem exec_miRead (form : ReadForm) (r : MiReg) (s : State) :
    exec (miRead form r) s = .next (s.start.completed (some ⟨form, s.miReg r⟩)) := by
  cases r <;>
    simp [miRead, exec, execLwMiMode, execLwMiVersion, execLwMiIntr, execLwMiIntrMask]

/-- A row of a plain VI read returns the stored word and does nothing else. -/
theorem exec_viRead (form : ReadForm) (r : ViReg) (s : State) (h : r ≠ .current) :
    exec (viRead form r) s = .next (s.start.completed (some ⟨form, s.viReg r⟩)) := by
  cases r <;> first
    | contradiction
    | simp [viRead, exec, execLwViControl, execLwViDramAddr, execLwViHWidth, execLwViVIntr, execLwViBurst,
        execLwViVSync, execLwViHSync, execLwViLeap, execLwViHStart, execLwViVStart, execLwViVBurst, execLwViXScale,
        execLwViYScale]

/-- A row of a plain VI write stores the word whole and does nothing else. -/
theorem exec_viWrite (d : Word) (r : ViReg) (s : State) (h : r ≠ .current ∧ r ≠ .vSync ∧ r ≠ .vIntr) :
    exec (viWrite d r) s = .next ((s.start.setViReg r d).completed none) := by
  obtain ⟨h1, h2, h3⟩ := h
  cases r <;> first
    | contradiction
    | simp [viWrite, exec, execSwViControl, execSwViDramAddr, execSwViHWidth, execSwViBurst, execSwViHSync,
        execSwViLeap, execSwViHStart, execSwViVStart, execSwViVBurst, execSwViXScale, execSwViYScale]

/-- The current-line read: the fresh word is written back and returned; a draw is spent when cps = 0. -/
theorem exec_lwViCurrent (form : ReadForm) (s : State) :
    exec (.lwViCurrent form) s =
      .next ((s.start.spendDraw.setViReg .current (s.start.currentLine s.start.untilVbl)).completed
        (some ⟨form, s.start.currentLine s.start.untilVbl⟩)) := by
  simp [exec, execLwViCurrent]

end Sys2Proof.Machine
end

