-- ==== Sys2Proof/Laws/PerInstr.lean ====
section
/-! SUPPORT. Per-instruction statements about instructions as syntax: every instruction encodes to a well-formed
transaction, and its word selects a row of the opcode map. -/

namespace Sys2Proof.Laws

open Machine

/-- The encoding of an instruction is a well-formed transaction, whatever the parameters, and a row of the opcode map selects its word. -/
def EncodeWellFormed.Statement (i : Instr) : Prop :=
  (∀ p : Params, (encode i).wellFormed p = true) ∧ opcodeRows.any (fun r => r.selects (encode i).tw) = true

/-- A word that is well formed with the reference parameters is well formed with any: longer stores put no offset out of
bounds. -/
theorem wordWellFormed_of_reference (p : Params) (t : Transaction) (h : t.wordWellFormed referenceParams = true) :
    t.wordWellFormed p = true := by
  simp only [Transaction.wordWellFormed, boundsOk, Bool.and_eq_true, Bool.or_eq_true] at h ⊢
  obtain ⟨⟨⟨⟨⟨h1, hb⟩, h2⟩, h3⟩, h4⟩, h5⟩ := h
  exact ⟨⟨⟨⟨⟨h1, hb.imp_right (inBounds_of_reference p _ _ _)⟩, h2⟩, h3⟩, h4⟩, h5⟩

/-- The statement of an instruction follows from its case of the reference parameters. -/
theorem EncodeWellFormed.of_reference (i : Instr) (h : (encode i).wellFormed referenceParams = true)
    (hr : opcodeRows.any (fun r => r.selects (encode i).tw) = true) : EncodeWellFormed.Statement i := by
  refine ⟨fun p => ?_, hr⟩
  simp only [Transaction.wellFormed, Bool.and_eq_true] at h ⊢
  exact ⟨⟨wordWellFormed_of_reference p _ h.1.1, h.1.2⟩, h.2⟩

/-- A transaction is well formed when its word is, and it brings only the operand its word takes. -/
theorem wellFormed_of_word (p : Params) (w d : Word) (n : Nat)
    (h : (Transaction.mk w 0 0).wordWellFormed referenceParams = true)
    (hd : isWrite w = true ∨ d = 0) (hn : (isEvent w && fieldE w == 5) = true ∨ n = 0) :
    (Transaction.mk w d n).wellFormed p = true := by
  have hw : (Transaction.mk w d n).wordWellFormed p = true := wordWellFormed_of_reference p _ h
  have h1 : dataOk ⟨w, d, n⟩ = true := by rcases hd with hd | hd <;> simp [dataOk, hd]
  have h2 : cyclesOk ⟨w, d, n⟩ = true := by
    rcases hn with hn | hn
    · show ((isEvent w && fieldE w == 5) || _) = true
      rw [hn]; rfl
    · simp [cyclesOk, hn]
  simp only [Transaction.wellFormed, hw, h1, h2, Bool.and_true]

/-- The write of any MI register is well formed, whatever the data. -/
theorem encodeMiWrite_ok (r : MiReg) (d : Word) :
    (∀ p : Params, (encodeMiWrite r d).wellFormed p = true) ∧ opcodeRows.any (fun w => w.selects (encodeMiWrite r d).tw) = true := by
  refine ⟨fun p => wellFormed_of_word p _ _ _ (by cases r <;> decide) (.inl (by cases r <;> decide)) (.inr rfl), ?_⟩
  change opcodeRows.any (fun w => w.selects (writeWord .mi (miOffset r))) = true
  cases r <;> decide

/-- The write of any VI register is well formed, whatever the data. -/
theorem encodeViWrite_ok (r : ViReg) (d : Word) :
    (∀ p : Params, (encodeViWrite r d).wellFormed p = true) ∧ opcodeRows.any (fun w => w.selects (encodeViWrite r d).tw) = true := by
  refine ⟨fun p => wellFormed_of_word p _ _ _ (by cases r <;> decide) (.inl (by cases r <;> decide)) (.inr rfl), ?_⟩
  change opcodeRows.any (fun w => w.selects (writeWord .vi (viOffset r))) = true
  cases r <;> decide

theorem EncodeWellFormed.lwMiMode (form : ReadForm) : EncodeWellFormed.Statement (.lwMiMode form) := by
  apply EncodeWellFormed.of_reference <;> cases form <;> decide

theorem EncodeWellFormed.lwMiVersion (form : ReadForm) : EncodeWellFormed.Statement (.lwMiVersion form) := by
  apply EncodeWellFormed.of_reference <;> cases form <;> decide

theorem EncodeWellFormed.lwMiIntr (form : ReadForm) : EncodeWellFormed.Statement (.lwMiIntr form) := by
  apply EncodeWellFormed.of_reference <;> cases form <;> decide

theorem EncodeWellFormed.lwMiIntrMask (form : ReadForm) : EncodeWellFormed.Statement (.lwMiIntrMask form) := by
  apply EncodeWellFormed.of_reference <;> cases form <;> decide

theorem EncodeWellFormed.lwViControl (form : ReadForm) : EncodeWellFormed.Statement (.lwViControl form) := by
  apply EncodeWellFormed.of_reference <;> cases form <;> decide

theorem EncodeWellFormed.lwViDramAddr (form : ReadForm) : EncodeWellFormed.Statement (.lwViDramAddr form) := by
  apply EncodeWellFormed.of_reference <;> cases form <;> decide

theorem EncodeWellFormed.lwViHWidth (form : ReadForm) : EncodeWellFormed.Statement (.lwViHWidth form) := by
  apply EncodeWellFormed.of_reference <;> cases form <;> decide

theorem EncodeWellFormed.lwViVIntr (form : ReadForm) : EncodeWellFormed.Statement (.lwViVIntr form) := by
  apply EncodeWellFormed.of_reference <;> cases form <;> decide

theorem EncodeWellFormed.lwViCurrent (form : ReadForm) : EncodeWellFormed.Statement (.lwViCurrent form) := by
  apply EncodeWellFormed.of_reference <;> cases form <;> decide

theorem EncodeWellFormed.lwViBurst (form : ReadForm) : EncodeWellFormed.Statement (.lwViBurst form) := by
  apply EncodeWellFormed.of_reference <;> cases form <;> decide

theorem EncodeWellFormed.lwViVSync (form : ReadForm) : EncodeWellFormed.Statement (.lwViVSync form) := by
  apply EncodeWellFormed.of_reference <;> cases form <;> decide

theorem EncodeWellFormed.lwViHSync (form : ReadForm) : EncodeWellFormed.Statement (.lwViHSync form) := by
  apply EncodeWellFormed.of_reference <;> cases form <;> decide

theorem EncodeWellFormed.lwViLeap (form : ReadForm) : EncodeWellFormed.Statement (.lwViLeap form) := by
  apply EncodeWellFormed.of_reference <;> cases form <;> decide

theorem EncodeWellFormed.lwViHStart (form : ReadForm) : EncodeWellFormed.Statement (.lwViHStart form) := by
  apply EncodeWellFormed.of_reference <;> cases form <;> decide

theorem EncodeWellFormed.lwViVStart (form : ReadForm) : EncodeWellFormed.Statement (.lwViVStart form) := by
  apply EncodeWellFormed.of_reference <;> cases form <;> decide

theorem EncodeWellFormed.lwViVBurst (form : ReadForm) : EncodeWellFormed.Statement (.lwViVBurst form) := by
  apply EncodeWellFormed.of_reference <;> cases form <;> decide

theorem EncodeWellFormed.lwViXScale (form : ReadForm) : EncodeWellFormed.Statement (.lwViXScale form) := by
  apply EncodeWellFormed.of_reference <;> cases form <;> decide

theorem EncodeWellFormed.lwViYScale (form : ReadForm) : EncodeWellFormed.Statement (.lwViYScale form) := by
  apply EncodeWellFormed.of_reference <;> cases form <;> decide

theorem EncodeWellFormed.swMiMode (d : Word) : EncodeWellFormed.Statement (.swMiMode d) :=
  encodeMiWrite_ok .mode d

theorem EncodeWellFormed.swMiVersion (d : Word) : EncodeWellFormed.Statement (.swMiVersion d) :=
  encodeMiWrite_ok .version d

theorem EncodeWellFormed.swMiIntr (d : Word) : EncodeWellFormed.Statement (.swMiIntr d) :=
  encodeMiWrite_ok .intr d

theorem EncodeWellFormed.swMiIntrMask (d : Word) : EncodeWellFormed.Statement (.swMiIntrMask d) :=
  encodeMiWrite_ok .intrMask d

theorem EncodeWellFormed.swViControl (d : Word) : EncodeWellFormed.Statement (.swViControl d) :=
  encodeViWrite_ok .control d

theorem EncodeWellFormed.swViDramAddr (d : Word) : EncodeWellFormed.Statement (.swViDramAddr d) :=
  encodeViWrite_ok .dramAddr d

theorem EncodeWellFormed.swViHWidth (d : Word) : EncodeWellFormed.Statement (.swViHWidth d) :=
  encodeViWrite_ok .hWidth d

theorem EncodeWellFormed.swViVIntr (d : Word) : EncodeWellFormed.Statement (.swViVIntr d) :=
  encodeViWrite_ok .vIntr d

theorem EncodeWellFormed.swViCurrent (d : Word) : EncodeWellFormed.Statement (.swViCurrent d) :=
  encodeViWrite_ok .current d

theorem EncodeWellFormed.swViBurst (d : Word) : EncodeWellFormed.Statement (.swViBurst d) :=
  encodeViWrite_ok .burst d

theorem EncodeWellFormed.swViVSync (d : Word) : EncodeWellFormed.Statement (.swViVSync d) :=
  encodeViWrite_ok .vSync d

theorem EncodeWellFormed.swViHSync (d : Word) : EncodeWellFormed.Statement (.swViHSync d) :=
  encodeViWrite_ok .hSync d

theorem EncodeWellFormed.swViLeap (d : Word) : EncodeWellFormed.Statement (.swViLeap d) :=
  encodeViWrite_ok .leap d

theorem EncodeWellFormed.swViHStart (d : Word) : EncodeWellFormed.Statement (.swViHStart d) :=
  encodeViWrite_ok .hStart d

theorem EncodeWellFormed.swViVStart (d : Word) : EncodeWellFormed.Statement (.swViVStart d) :=
  encodeViWrite_ok .vStart d

theorem EncodeWellFormed.swViVBurst (d : Word) : EncodeWellFormed.Statement (.swViVBurst d) :=
  encodeViWrite_ok .vBurst d

theorem EncodeWellFormed.swViXScale (d : Word) : EncodeWellFormed.Statement (.swViXScale d) :=
  encodeViWrite_ok .xScale d

theorem EncodeWellFormed.swViYScale (d : Word) : EncodeWellFormed.Statement (.swViYScale d) :=
  encodeViWrite_ok .yScale d

theorem EncodeWellFormed.vbl : EncodeWellFormed.Statement .vbl := by
  apply EncodeWellFormed.of_reference <;> decide

theorem EncodeWellFormed.raise (src : Source) : EncodeWellFormed.Statement (.raise src) := by
  apply EncodeWellFormed.of_reference <;> cases src <;> decide

theorem EncodeWellFormed.clear (src : Source) : EncodeWellFormed.Statement (.clear src) := by
  apply EncodeWellFormed.of_reference <;> cases src <;> decide

theorem EncodeWellFormed.reset (tv : BitVec 8) : EncodeWellFormed.Statement (.reset tv) := by
  apply EncodeWellFormed.of_reference <;> decide +revert

theorem EncodeWellFormed.tick (n : Nat) : EncodeWellFormed.Statement (.tick n) := by
  refine ⟨fun p => wellFormed_of_word p _ _ _ (by decide) (.inr rfl) (.inl (by decide)), ?_⟩
  change opcodeRows.any (fun w => w.selects (eventWord 5 0)) = true
  decide

theorem EncodeWellFormed.dump : EncodeWellFormed.Statement .dump := by
  apply EncodeWellFormed.of_reference <;> decide

theorem EncodeWellFormed.quiet (q : Bool) : EncodeWellFormed.Statement (.quiet q) := by
  apply EncodeWellFormed.of_reference <;> cases q <;> decide

end Sys2Proof.Laws
end

