-- ==== Sys2Proof/Certificates/Slice0/Obligations.lean ====
section
/-! DEFINITION. The statements for the provers, from the numbered rules of spec/. A statement that rests on a decision the
spec marks as its own, or on the model's log, says so in its docstring. -/

open Sys2Proof Sys2Proof.Machine

/-- A plain VI read row: it selects its row; it returns the stored word in either form and does nothing else; and after
a write of the register that completes, it returns the word written. -/
def Sys2Proof.Machine.PlainViRead (ld : ReadForm → Instr) (st : Word → Instr) (r : ViReg) (pattern : Word) : Prop :=
  ∀ (form : ReadForm) (s : State),
    (encode (ld form)).tw &&& 0xFBFFFFFF#32 = pattern ∧
    exec (ld form) s = .next { s with events := [], outcome := .ok (some ⟨form, s.viReg r⟩) } ∧
    ∀ d t, exec (st d) s = .next t → t.outcome = .ok none →
      exec (ld form) t = .next { t with events := [], outcome := .ok (some ⟨form, d⟩) }

/-- A plain VI write row: it is its row's word; it completes; the register holds the word whole, every other word of
both stores and every other field stays, and nothing is emitted. -/
def Sys2Proof.Machine.PlainViWrite (st : Word → Instr) (r : ViReg) (pattern : Word) : Prop :=
  ∀ (d : Word) (s : State),
    (encode (st d)).tw = pattern ∧
    ∃ t, exec (st d) s = .next t ∧ t = { s with vi := t.vi, events := [], outcome := .ok none } ∧
      ∀ q, t.viReg q = if q = r then d else s.viReg q

/-! ## Decoding -/

/-- Decoding an encoded instruction gives it back, with every operand at every value and whatever the parameters (R100
to R104; the transaction encoding is the spec's own decision, 92 D13). -/
def Obligations.DecodeOfEncodeIsTheInstruction : Prop :=
  ∀ (p : Params) (i : Instr), decode p (encode i) = .ok (.instr i)

/-- Every well-formed transaction is the encoding of what it decodes to, an instruction or a raw access (R100 to R105;
92 D13; that an operand stands only beside a word that takes one is the model's, log 2). -/
def Obligations.EncodeOfDecodeIsTheTransaction : Prop :=
  ∀ (p : Params) (t : Transaction), t.wellFormed p = true → ∃ d, decode p t = .ok d ∧ encodeDecoded d = t

/-- The decoder accepts exactly the words that pass every check of R103 and R105, and with the reference lengths what it
gives is then an instruction (92 D3, D13, D34). -/
def Obligations.DecoderAcceptsExactlyTheWellFormedWords : Prop :=
  ∀ (p : Params) (t : Transaction),
    ((∃ d, decode p t = .ok d) ↔ t.wordWellFormed p = true) ∧
    (p.miRawWords = 0 → p.viRawWords = 0 → ((∃ i, decode p t = .ok (.instr i)) ↔ t.wordWellFormed p = true))

/-- Which failure the decoder reports, in the order of R103 and R265 (92 D13, D34). -/
def Obligations.DecoderReportsTheFirstFailureInOrder : Prop :=
  ∀ (p : Params) (t : Transaction),
    (decode p t = .error .reservedTransaction ↔
      ¬ (kindOk t = true ∧ busZeroOk t = true ∧ writeFormOk t = true ∧ eventZeroOk t = true ∧ eventCodeOk t = true ∧
        eventArgOk t = true)) ∧
    (decode p t = .error .unsupportedWidth ↔
      busZeroOk t = true ∧ writeFormOk t = true ∧ widthOk t = false) ∧
    (∀ addr n, decode p t = .error (.boundsError addr n) ↔
      busZeroOk t = true ∧ writeFormOk t = true ∧ widthOk t = true ∧ boundsOk p t = false ∧
        addr = blockBase p (fieldU t.tw) + (fieldO t.tw).toNat ∧ n = 4) ∧
    (decode p t = .error .badSource ↔
      eventZeroOk t = true ∧ eventCodeOk t = true ∧ eventArgOk t = true ∧ sourceOk t = false)

/-- No word selects two rows of the opcode map (R109). -/
def Obligations.OpcodeRowsAreDisjoint : Prop :=
  ∀ (w : Word) (r q : Row), r ∈ opcodeRows → q ∈ opcodeRows → r.selects w = true → q.selects w = true → r = q

/-- Every transaction that decodes is an instruction whose word a row of the opcode map selects, or, only with a store
longer than its registers, a raw access of an undecoded in-bounds offset, which no row selects and whose step reads the
word as it stands, or stores it with a diagnostic (R67, R103, R144, R150, R205, R206; raw reads 92 D35; lengths 92 D3,
logs 14 and 22). -/
def Obligations.DecodedTransactionIsARowOrARawAccess : Prop :=
  (∀ (p : Params) (t : Transaction) (d : Decoded), decode p t = .ok d →
    ((∃ i, d = .instr i) ∧ ∃ r ∈ opcodeRows, r.selects t.tw = true) ∨
    ((∃ b o, ((∃ form, d = .rawRead b o form) ∨ d = .rawWrite b o t.data) ∧ inBounds p b o 4 = true ∧
      (match b with
        | .mi => 16 ≤ o ∧ 0 < p.miRawWords
        | .vi => 56 ≤ o ∧ 0 < p.viRawWords)) ∧
      ∀ r ∈ opcodeRows, r.selects t.tw = false)) ∧
  (∀ (s : State) (t : Transaction) (rest : List Transaction) (b : Block) (o : Nat),
    s.input = t :: rest → s.storesFit = true →
    (∀ form, decode s.params t = .ok (.rawRead b o form) →
      ∃ w, (s.store b)[o / 4]? = some w ∧
        step s = .next { s with input := rest, events := [], outcome := .ok (some ⟨form, w⟩) }) ∧
    (∀ d, decode s.params t = .ok (.rawWrite b o d) →
      ∃ u, step s = .next u ∧ u.store b = (s.store b).set (o / 4) d ∧
        u = { s with
          miRaw := u.miRaw, viRaw := u.viRaw, input := rest, events := [.diag (.unexpectedWrite b o d)]
          outcome := .ok none } ∧
        ∀ c, c ≠ b → u.store c = s.store c))

/-- Words written out from R101, R102 and R107 decode to the instructions they stand for (92 D13). -/
def Obligations.SpecWordsDecodeToTheirInstructions : Prop :=
  decode referenceParams ⟨0x10000004, 0, 0⟩ = .ok (.instr (.lwMiVersion .u32)) ∧
  decode referenceParams ⟨0x14000004, 0, 0⟩ = .ok (.instr (.lwMiVersion .s32)) ∧
  decode referenceParams ⟨0x34000010, 0, 0⟩ = .ok (.instr (.lwViCurrent .s32)) ∧
  decode referenceParams ⟨0x5000000C, 0x80, 0⟩ = .ok (.instr (.swMiIntrMask 0x80)) ∧
  decode referenceParams ⟨0x70000018, 0x20C, 0⟩ = .ok (.instr (.swViVSync 0x20C)) ∧
  decode referenceParams ⟨0x82000005, 0, 0⟩ = .ok (.instr (.raise .dp)) ∧
  decode referenceParams ⟨0x840000FF, 0, 0⟩ = .ok (.instr (.reset 0xFF)) ∧
  decode referenceParams ⟨0x85000000, 0, 15450⟩ = .ok (.instr (.tick 15450)) ∧
  decode referenceParams ⟨0x87000001, 0, 0⟩ = .ok (.instr (.quiet true))

/-! ## The step -/

/-- A step takes the oldest presented transaction and runs the instruction it decodes to (R13, R70, R103; the presented
list is the model's, log 1). -/
def Obligations.StepRunsTheDecodedInstruction : Prop :=
  ∀ (s : State) (t : Transaction) (rest : List Transaction) (i : Instr),
    s.input = t :: rest → decode s.params t = .ok (.instr i) → step s = exec i { s with input := rest }

/-- A word the decoder turns away takes its fault or refusal: the sticky flag is set, the reason is recorded, and
nothing else happens (R11, R260, R261; 92 D15; logs 3 and 4). -/
def Obligations.RejectedTransactionTakesItsReason : Prop :=
  ∀ (s : State) (t : Transaction) (rest : List Transaction), s.input = t :: rest →
    (decode s.params t = .error .reservedTransaction →
      step s = .next { s with input := rest, refused := true, events := [], outcome := .refused (.reservedTransaction t.tw) }) ∧
    (decode s.params t = .error .unsupportedWidth →
      step s = .next { s with input := rest, refused := true, events := [], outcome := .refused (.unsupportedWidth t.tw) }) ∧
    (decode s.params t = .error .badSource →
      step s = .next { s with input := rest, refused := true, events := [], outcome := .refused (.badSource t.tw) }) ∧
    (∀ addr n, decode s.params t = .error (.boundsError addr n) →
      step s = .next { s with input := rest, faulted := true, events := [], outcome := .fault (.boundsError addr n) })

/-- With no transaction presented the block is idle (R292; the idle step is the model's, log 1). -/
def Obligations.IdleStepChangesNothing : Prop :=
  ∀ s : State, s.input = [] → step s = .next { s with events := [], outcome := .idle }

/-- No step stops the machine: every transaction ends ok, faulted or refused, and the next one can run (R11, R264; that
the host's own stops are never used is the model's, log 4). -/
def Obligations.StepAlwaysAnswersANextState : Prop :=
  ∀ s : State, ∃ t, step s = .next t

/-- A transaction ends in one of three outcomes; a fault or a refusal leaves the state as it was but for its sticky flag
(R11, R263; 92 D15; log 3). -/
def Obligations.TransactionEndsInOneOfThreeOutcomes : Prop :=
  ∀ (i : Instr) (s : State), ∃ t, exec i s = .next t ∧
    ((∃ v, t.outcome = .ok v ∧ t.faulted = s.faulted ∧ t.refused = s.refused) ∨
      (∃ f, t = { s with faulted := true, events := [], outcome := .fault f }) ∨
      (∃ r, t = { s with refused := true, events := [], outcome := .refused r }))

/-- What can fail in execution: `ZeroFramePeriod`, in the four transactions that schedule a callback, and
`NoPendingVbl`, in a VBL with none pending (R261, R262, R263; 92 D19, D23). -/
def Obligations.ExecutionFailsOnlyAsTheRulesSay : Prop :=
  ∀ (i : Instr) (s t : State), exec i s = .next t →
    (∀ f, t.outcome = .fault f → f = .zeroFramePeriod ∧
      ((∃ d, i = .swViVSync d) ∨ (∃ d, i = .swViVIntr d) ∨ i = .vbl ∨ ∃ n, i = .tick n)) ∧
    (∀ r, t.outcome = .refused r → r = .noPendingVbl 0x81000000 ∧ i = .vbl ∧ s.schedPending = false)

/-- A fault or refusal ends only its own transaction: the state is unchanged but for the sticky flag, and the sticky
flags change nothing of what a later instruction does (R264; the flags are the spec's decision 92 D15; that a failure is
a next state with its reason recorded is the model's, log 4). -/
def Obligations.FailureEndsOnlyItsOwnTransaction : Prop :=
  (∀ (s : State) (t : Transaction) (rest : List Transaction) (u : State), s.input = t :: rest → step s = .next u →
    (∀ f, u.outcome = .fault f → u = { s with input := rest, faulted := true, events := [], outcome := .fault f }) ∧
    (∀ r, u.outcome = .refused r → u = { s with input := rest, refused := true, events := [], outcome := .refused r })) ∧
  (∀ (i : Instr) (s t : State) (a b : Bool), exec i s = .next t →
    exec i { s with faulted := s.faulted || a, refused := s.refused || b } =
      .next { t with faulted := t.faulted || a, refused := t.refused || b })

/-- The bounds check, and what an access that fails it does: nothing, and `BoundsError` with the bus address (R62; the
sticky flag is the spec's decision 92 D15; that the fault is a next state with its reason recorded is the model's, log
4). -/
def Obligations.AccessOutOfBoundsRaisesBoundsError : Prop :=
  (∀ (p : Params) (b : Block) (o : Int) (n : Nat),
    inBounds p b o n = true ↔ 0 ≤ o ∧ o + n ≤ blockLen p b ∧ o % 4 = 0) ∧
  (∀ (s : State) (t : Transaction) (rest : List Transaction), s.input = t :: rest → isBus t.tw = true →
    busZeroOk t = true → writeFormOk t = true → widthOk t = true →
    (inBounds s.params (fieldU t.tw) (fieldO t.tw).toNat 4 = false →
      step s = .next { s with
        input := rest, faulted := true, events := [],
        outcome := .fault (.boundsError (blockBase s.params (fieldU t.tw) + (fieldO t.tw).toNat) 4) }) ∧
    (inBounds s.params (fieldU t.tw) (fieldO t.tw).toNat 4 = true →
      ∀ u, step s = .next u → ∀ addr n, u.outcome ≠ .fault (.boundsError addr n)))

/-! ## The register block -/

/-- `RB.readWord` returns the word of the store at the offset, and `RB.writeWord` replaces it and nothing else; out of
bounds both fail with `BoundsError` (R121, R122; in states whose stores have their lengths, part of the invariant). -/
def Obligations.RegisterBlockReadsAndWritesOneWord : Prop :=
  ∀ (b : Block) (o : Int) (v : Word) (s : State),
    (inBounds s.params b o 4 = false →
      rbReadWord b o s = .error (.fault (.boundsError (blockBase s.params b + o) 4)) ∧
      rbWriteWord b o v s = .error (.fault (.boundsError (blockBase s.params b + o) 4))) ∧
    (inBounds s.params b o 4 = true → s.storesFit = true →
      (∃ w, rbReadWord b o s = .ok w ∧ (s.store b)[o.toNat / 4]? = some w) ∧
      ∃ t, rbWriteWord b o v s = .ok t ∧ rbReadWord b o t = .ok v ∧
        t = { s with mi := t.mi, vi := t.vi, miRaw := t.miRaw, viRaw := t.viRaw } ∧
        (∀ c p, (c ≠ b ∨ p ≠ o) → rbReadWord c p t = rbReadWord c p s) ∧
        (rbReadWord b o s = .ok v → t = s))

/-- `RB.setBits` and `RB.clearBits` change the bits of the mask in one word and nothing else; out of bounds both fail
(R123, R124; in states whose stores have their lengths, part of the invariant). -/
def Obligations.RegisterBlockSetsAndClearsBits : Prop :=
  ∀ (b : Block) (o : Int) (m : Word) (s : State),
    (inBounds s.params b o 4 = false →
      rbSetBits b o m s = .error (.fault (.boundsError (blockBase s.params b + o) 4)) ∧
      rbClearBits b o m s = .error (.fault (.boundsError (blockBase s.params b + o) 4))) ∧
    (inBounds s.params b o 4 = true → s.storesFit = true →
      ∃ w t u, rbReadWord b o s = .ok w ∧
        rbSetBits b o m s = .ok t ∧ rbReadWord b o t = .ok (w ||| m) ∧
        t = { s with mi := t.mi, vi := t.vi, miRaw := t.miRaw, viRaw := t.viRaw } ∧
        (∀ c p, (c ≠ b ∨ p ≠ o) → rbReadWord c p t = rbReadWord c p s) ∧ (w ||| m = w → t = s) ∧
        rbClearBits b o m s = .ok u ∧ rbReadWord b o u = .ok (w &&& ~~~m) ∧
        u = { s with mi := u.mi, vi := u.vi, miRaw := u.miRaw, viRaw := u.viRaw } ∧
        (∀ c p, (c ≠ b ∨ p ≠ o) → rbReadWord c p u = rbReadWord c p s) ∧ (w &&& m = 0 → u = s))

/-! ## The MI -/

/-- `LW MI.MODE` and `LW MI.VERSION` return the stored words and do nothing else; the flags' bits alone can be 1, and
the version is the parameter (R140, R141; bit places 92 D5, log 12; version value 92 D7, log 9). -/
def Obligations.MiModeAndVersionReads : Prop :=
  ∀ (form : ReadForm) (s : State),
    exec (.lwMiMode form) s = .next { s with events := [], outcome := .ok (some ⟨form, s.miReg .mode⟩) } ∧
    exec (.lwMiVersion form) s = .next { s with events := [], outcome := .ok (some ⟨form, s.miReg .version⟩) } ∧
    (s.Inv → s.miReg .mode &&& ~~~0x380#32 = 0 ∧ s.miReg .version = s.params.miVersion)

/-- `LW MI.INTR` and `LW MI.INTR_MASK` return the pending and the mask vector, clear nothing, and do nothing else (R142,
R143). -/
def Obligations.MiVectorReads : Prop :=
  ∀ (form : ReadForm) (s : State),
    (encode (.lwMiIntr form)).tw &&& 0xFBFFFFFF#32 = 0x10000008#32 ∧
    (encode (.lwMiIntrMask form)).tw &&& 0xFBFFFFFF#32 = 0x1000000C#32 ∧
    exec (.lwMiIntr form) s = .next { s with events := [], outcome := .ok (some ⟨form, s.miReg .intr⟩) } ∧
    exec (.lwMiIntrMask form) s = .next { s with events := [], outcome := .ok (some ⟨form, s.miReg .intrMask⟩) } ∧
    (s.Inv → s.miReg .intr = ((s.miReg .intr).extractLsb' 0 6).setWidth 32 ∧
      s.miReg .intrMask = ((s.miReg .intrMask).extractLsb' 0 6).setWidth 32)

/-- `SW MI.MODE, D`: each flag becomes (flag OR set) AND NOT clear, so clear wins; D[11] clears DP pending and notifies;
nothing else changes (R146; bit places 92 D5, log 12; the ignored bits 92 D18, log 26). -/
def Obligations.ModeWriteClearWins : Prop :=
  ∀ (d : Word) (s : State), ∃ t, exec (.swMiMode d) s = .next t ∧
    (t.miReg .mode).getLsbD 7 = (((s.miReg .mode).getLsbD 7 || d.getLsbD 8) && !d.getLsbD 7) ∧
    (t.miReg .mode).getLsbD 8 = (((s.miReg .mode).getLsbD 8 || d.getLsbD 10) && !d.getLsbD 9) ∧
    (t.miReg .mode).getLsbD 9 = (((s.miReg .mode).getLsbD 9 || d.getLsbD 13) && !d.getLsbD 12) ∧
    (∀ k, k ≠ 7 → k ≠ 8 → k ≠ 9 → (t.miReg .mode).getLsbD k = (s.miReg .mode).getLsbD k) ∧
    t.miReg .version = s.miReg .version ∧ t.miReg .intrMask = s.miReg .intrMask ∧
    (d.getLsbD 11 = false → t.miReg .intr = s.miReg .intr ∧
      t = { s with mi := t.mi, events := [], outcome := .ok none }) ∧
    (d.getLsbD 11 = true → t.miReg .intr = s.miReg .intr &&& ~~~0x20#32 ∧
      t = { s with mi := t.mi, events := [.notify], cpuLine := t.line, outcome := .ok none })

/-- Writes of the version register and of the pending register are ignored: no error, no store, no `Notify` (R147,
R148). -/
def Obligations.ReadOnlyRegisterWritesAreIgnored : Prop :=
  ∀ (d : Word) (s : State),
    (encode (.swMiVersion d)).tw = 0x50000004#32 ∧ (encode (.swMiIntr d)).tw = 0x50000008#32 ∧
    exec (.swMiVersion d) s = .next { s with events := [], outcome := .ok none } ∧
    exec (.swMiIntr d) s = .next { s with events := [], outcome := .ok none }

/-- `SW MI.INTR_MASK, D`: a source's mask bit is set by D[2i+1], else kept unless D[2i] clears it, so set wins; `Notify`
exactly when the new mask AND pending is not 0; nothing else changes (R149, R151; bit places 92 D5, log 12; when
`Notify` is emitted 92 D22, log 17; bits 31:12 ignored 92 D39, log 26). -/
def Obligations.MaskWriteSetWins : Prop :=
  ∀ (d : Word) (s : State), ∃ t, exec (.swMiIntrMask d) s = .next t ∧
    (∀ i, i < 6 → (t.miReg .intrMask).getLsbD i =
      (d.getLsbD (2 * i + 1) || ((s.miReg .intrMask).getLsbD i && !d.getLsbD (2 * i)))) ∧
    (∀ i, 6 ≤ i → (t.miReg .intrMask).getLsbD i = (s.miReg .intrMask).getLsbD i) ∧
    (∀ r, r ≠ .intrMask → t.miReg r = s.miReg r) ∧
    t = { s with
      mi := t.mi
      events := if t.miReg .intrMask &&& s.miReg .intr ≠ 0 then [.notify] else []
      cpuLine := if t.miReg .intrMask &&& s.miReg .intr ≠ 0 then t.line else s.cpuLine
      outcome := .ok none }

/-- `RAISE src` sets the source's pending bit and notifies, whatever the mask; nothing else changes; indices 6 and 7 are
refused at decode; a vertical blank that completes raises VI in the same way (R152). -/
def Obligations.RaiseSetsThePendingBitAndNotifies : Prop :=
  (∀ (src : Source) (s : State), ∃ t, exec (.raise src) s = .next t ∧
    (encode (.raise src)).tw &&& 0xFFFFFFF8#32 = 0x82000000#32 ∧
    (∀ k, k < 32 → (t.miReg .intr).getLsbD k = ((s.miReg .intr).getLsbD k || k == sourceIndex src)) ∧
    (∀ r, r ≠ .intr → t.miReg r = s.miReg r) ∧
    t = { s with mi := t.mi, events := [.notify], cpuLine := t.line, outcome := .ok none }) ∧
  (∀ p, decode p ⟨0x82000006, 0, 0⟩ = .error .badSource ∧ decode p ⟨0x82000007, 0, 0⟩ = .error .badSource) ∧
  ∀ s t : State, exec .vbl s = .next t → t.outcome = .ok none →
    (∀ k, k < 32 → (t.miReg .intr).getLsbD k = ((s.miReg .intr).getLsbD k || k == sourceIndex .vi)) ∧
    t.cpuLine = t.line ∧ t.events.count .notify = 1

/-- `CLEAR src` clears the source's pending bit and notifies; nothing else changes (R153; that the device's clear
notifies is the spec's decision 92 D21, log 17). -/
def Obligations.ClearClearsThePendingBitAndNotifies : Prop :=
  ∀ (src : Source) (s : State), ∃ t, exec (.clear src) s = .next t ∧
    (∀ k, (t.miReg .intr).getLsbD k = ((s.miReg .intr).getLsbD k && !(k == sourceIndex src))) ∧
    (∀ r, r ≠ .intr → t.miReg r = s.miReg r) ∧
    t = { s with mi := t.mi, events := [.notify], cpuLine := t.line, outcome := .ok none }

/-- The interrupt line is high exactly when some source is both pending and enabled; there is no priority (R28, R266,
R268; 92 D31, D37; log 30). -/
def Obligations.LineIsHighWhenASourceIsPendingAndEnabled : Prop :=
  ∀ s : State, s.line = true ↔
    ∃ src, (s.miReg .intr).getLsbD (sourceIndex src) = true ∧ (s.miReg .intrMask).getLsbD (sourceIndex src) = true

/-- `Notify` is emitted by exactly the operations of R154 (90_conflicts.md C2; 92 D21, D22; log 17). -/
def Obligations.NotifyIsEmittedExactlyByTheseOperations : Prop :=
  ∀ (i : Instr) (s t : State), exec i s = .next t →
    (Event.notify ∈ t.events ↔
      (∃ src, i = .raise src) ∨ (∃ src, i = .clear src) ∨ (∃ d, i = .swViCurrent d) ∨
      (∃ d, i = .swMiMode d ∧ d.getLsbD 11 = true) ∨
      (∃ d, i = .swMiIntrMask d ∧ t.miReg .intrMask &&& t.miReg .intr ≠ 0) ∨
      (i = .vbl ∧ s.schedPending = true ∧ s.cpvb ≠ 0) ∨
      (∃ n : Nat, i = .tick n ∧ s.schedPending = true ∧ s.schedCountdown - (n : Int) ≤ 0 ∧ s.cpvb ≠ 0))

/-- The reference CPU's flag takes the line at each `Notify` and is otherwise written only by RESET (R42, R145; 92 D29;
log 30). -/
def Obligations.NotifyCopiesTheLineToTheCpu : Prop :=
  ∀ (i : Instr) (s t : State), exec i s = .next t →
    (Event.notify ∈ t.events → t.cpuLine = t.line) ∧
    (Event.notify ∉ t.events → (∀ tv, i ≠ .reset tv) → t.cpuLine = s.cpuLine) ∧
    (∀ tv, i = .reset tv → t.cpuLine = false)

/-- A mask write that leaves no enabled source pending drops the line and leaves the CPU's flag as it was, so it can be
stale (R304; 92 D22; log 17). -/
def Obligations.MaskClearLeavesTheCpuFlagStale : Prop :=
  ∀ (d : Word) (s t : State), exec (.swMiIntrMask d) s = .next t → t.miReg .intrMask &&& s.miReg .intr = 0 →
    t.line = false ∧ t.cpuLine = s.cpuLine ∧ t.events = []

/-- Which transactions write the MI registers (R24, R25, R26, R126, R147): the mode word only the mode write and RESET,
the version word none, the mask word only the mask write and RESET, the pending word only the raise, clear, acknowledge,
DP clear, vertical blank and RESET. -/
def Obligations.MiRegistersAreWrittenOnlyByTheirTransactions : Prop :=
  ∀ (i : Instr) (s t : State), exec i s = .next t → (∀ tv, i ≠ .reset tv) →
    (t.miReg .mode ≠ s.miReg .mode → ∃ d, i = .swMiMode d) ∧
    t.miReg .version = s.miReg .version ∧
    (t.miReg .intrMask ≠ s.miReg .intrMask → ∃ d, i = .swMiIntrMask d) ∧
    (t.miReg .intr ≠ s.miReg .intr →
      (∃ src, i = .raise src) ∨ (∃ src, i = .clear src) ∨ (∃ d, i = .swViCurrent d) ∨
      (∃ d, i = .swMiMode d ∧ d.getLsbD 11 = true) ∨ i = .vbl ∨ ∃ n, i = .tick n)

/-- The MI's transactions never touch the VI, its timing, its parity or the scheduler's slot (R2, R126). -/
def Obligations.MiTransactionsLeaveTheVi : Prop :=
  ∀ (form : ReadForm) (d : Word) (src : Source) (s t : State) (i : Instr),
    i ∈ [.lwMiMode form, .lwMiVersion form, .lwMiIntr form, .lwMiIntrMask form, .swMiMode d, .swMiVersion d,
      .swMiIntr d, .swMiIntrMask d, .raise src, .clear src] →
    exec i s = .next t →
    t = { s with mi := t.mi, cpuLine := t.cpuLine, events := t.events, outcome := t.outcome }

/-! ## The VI's registers -/

/-- Plain VI reads return the stored word, and what was written reads back (R180, R181, R182, R183, R185, R186). -/
def Obligations.PlainViReadsOfTheFirstRegisters : Prop :=
  PlainViRead .lwViControl .swViControl .control 0x30000000 ∧
  PlainViRead .lwViDramAddr .swViDramAddr .dramAddr 0x30000004 ∧
  PlainViRead .lwViHWidth .swViHWidth .hWidth 0x30000008 ∧
  PlainViRead .lwViVIntr .swViVIntr .vIntr 0x3000000C ∧
  PlainViRead .lwViBurst .swViBurst .burst 0x30000014 ∧
  PlainViRead .lwViVSync .swViVSync .vSync 0x30000018

/-- Plain VI reads return the stored word, and what was written reads back (R187 to R193). -/
def Obligations.PlainViReadsOfTheOtherRegisters : Prop :=
  PlainViRead .lwViHSync .swViHSync .hSync 0x3000001C ∧
  PlainViRead .lwViLeap .swViLeap .leap 0x30000020 ∧
  PlainViRead .lwViHStart .swViHStart .hStart 0x30000024 ∧
  PlainViRead .lwViVStart .swViVStart .vStart 0x30000028 ∧
  PlainViRead .lwViVBurst .swViVBurst .vBurst 0x3000002C ∧
  PlainViRead .lwViXScale .swViXScale .xScale 0x30000030 ∧
  PlainViRead .lwViYScale .swViYScale .yScale 0x30000034

/-- Plain VI writes store the word whole and do nothing else; `VI.interlaced()` and `VI.is32bpp()` take the new control
word at once, the field parity at the next VBL; the next `Present` carries the new DRAM address (R194 to R199; the rest
of its payload is the spec's decision 92 D17, log 27). -/
def Obligations.PlainViWritesOfTheFirstRegisters : Prop :=
  PlainViWrite .swViControl .control 0x70000000 ∧
  PlainViWrite .swViDramAddr .dramAddr 0x70000004 ∧
  PlainViWrite .swViHWidth .hWidth 0x70000008 ∧
  PlainViWrite .swViBurst .burst 0x70000014 ∧
  PlainViWrite .swViHSync .hSync 0x7000001C ∧
  PlainViWrite .swViLeap .leap 0x70000020 ∧
  ∀ (d : Word) (s t : State), exec (.swViControl d) s = .next t →
    t.interlaced = d.getLsbD s.params.serrateBit ∧
    (t.is32bpp = true ↔ d.extractLsb' s.params.typeLow 2 = s.params.type32) ∧
    t.fieldParity = s.fieldParity ∧
    (∀ u, exec .vbl t = .next u → u.outcome = .ok none →
      u.fieldParity = if d.getLsbD s.params.serrateBit then s.fieldParity ^^^ 1 else 0) ∧
    ∀ (a : Word) (v u : State), exec (.swViDramAddr a) s = .next v → exec .vbl v = .next u → u.outcome = .ok none →
      .present a (s.viReg .hWidth) (s.viReg .control) ∈ u.events

/-- Plain VI writes store the word whole and do nothing else; the scale factors take bits 11:0 of it over 1024 and
ignore the bits above (R200 to R204). -/
def Obligations.PlainViWritesOfTheOtherRegisters : Prop :=
  PlainViWrite .swViHStart .hStart 0x70000024 ∧
  PlainViWrite .swViVStart .vStart 0x70000028 ∧
  PlainViWrite .swViVBurst .vBurst 0x7000002C ∧
  PlainViWrite .swViXScale .xScale 0x70000030 ∧
  PlainViWrite .swViYScale .yScale 0x70000034 ∧
  ∀ (d : Word) (s t : State),
    (exec (.swViXScale d) s = .next t → t.xScale = ((d.toNat % 4096 : Nat) : Rat) / 1024) ∧
    (exec (.swViYScale d) s = .next t → t.yScale = ((d.toNat % 4096 : Nat) : Rat) / 1024)

/-- A plain VI write stores its word most significant byte first at its offset, and every other byte of both stores is
as before; where the two windows share no address the same holds by bus address (R66, R194 to R204; the byte order is
the spec's decision 92 D24, log 21). -/
def Obligations.PlainViWriteChangesOnlyItsFourBytes : Prop :=
  ∀ (d : Word) (r : ViReg) (s t : State), r ≠ .current → r ≠ .vSync → r ≠ .vIntr → exec (viWrite d r) s = .next t →
    (∀ k, k < 4 → t.byteIn .vi (viOffset r + k) = d.extractLsb' (8 * (3 - k)) 8) ∧
    (∀ (b : Block) (o : Nat), ¬ (b = .vi ∧ viOffset r ≤ o ∧ o < viOffset r + 4) → t.byteIn b o = s.byteIn b o) ∧
    (windowsApart s.params = true →
      (∀ k, k < 4 →
        t.byteAt ((busAddress s.params .vi (viOffset r)).toNat + k) = some (d.extractLsb' (8 * (3 - k)) 8)) ∧
      ∀ a : Nat,
        ¬ (busAddress s.params .vi (viOffset r) ≤ a ∧ (a : Int) < busAddress s.params .vi (viOffset r) + 4) →
        t.byteAt a = s.byteAt a)

/-- Each VI word is written only by its own register's write, the stored current line only by a current-line read, and
all of them by RESET (R31, R194 to R213). -/
def Obligations.ViRegistersAreWrittenOnlyByTheirTransactions : Prop :=
  ∀ (i : Instr) (s t : State) (r : ViReg), exec i s = .next t → t.viReg r ≠ s.viReg r →
    (r ≠ .current ∧ ∃ d, i = viWrite d r) ∨ (r = .current ∧ ∃ form, i = .lwViCurrent form) ∨ ∃ tv, i = .reset tv

/-- LW and LWS return the same 32 bits, as an unsigned and as a two's complement number, with the same side effects
(R65; 92 D33; log 29). -/
def Obligations.ReadFormsReturnTheSameBits : Prop :=
  ∀ (s : State),
    (∀ r : MiReg, ∃ (w : Word) (t : State), exec (miRead .u32 r) s = .next { t with outcome := .ok (some ⟨.u32, w⟩) } ∧
      exec (miRead .s32 r) s = .next { t with outcome := .ok (some ⟨.s32, w⟩) }) ∧
    (∀ r : ViReg, ∃ (w : Word) (t : State), exec (viRead .u32 r) s = .next { t with outcome := .ok (some ⟨.u32, w⟩) } ∧
      exec (viRead .s32 r) s = .next { t with outcome := .ok (some ⟨.s32, w⟩) }) ∧
    (∀ w : Word, ReadResult.value ⟨.u32, w⟩ = (w.toNat : Int) ∧
      ReadResult.value ⟨.s32, w⟩ = (if w.getLsbD 31 then (w.toNat : Int) - 2 ^ 32 else (w.toNat : Int)))

/-! ## The VI's timing -/

/-- The retiming arithmetic: nested floors agree, cps is 0 exactly when the frame has more lines than cycles, and a
frame never exceeds the frame period (R214; the identity is general knowledge, 93 G14). -/
def Obligations.RetimingArithmetic : Prop :=
  ∀ clock refresh v : Nat, 0 < refresh →
    (timing clock refresh v).1 = clock / refresh / (v + 1) ∧
    (timing clock refresh v).2 = (v + 1) * (timing clock refresh v).1 ∧
    ((timing clock refresh v).1 = 0 ↔ clock < refresh * (v + 1)) ∧
    (timing clock refresh v).2 ≤ clock / refresh ∧
    (v = 0 → timing clock refresh v = (clock / refresh, clock / refresh))

/-- `SW VI.V_SYNC, D`: the stored value again is a no-op; a changed one recomputes cps and cpvb, is stored, and arms
when nothing is pending and L <u D, or is undone when that would schedule after 0 cycles (R210, R212, R262; the fault is
the spec's decision 92 D23, log 18). -/
def Obligations.RetimeWriteRecomputesAndArms : Prop :=
  ∀ (d : Word) (s : State) (cps cpvb : Nat),
    cps = s.clockHz / (s.refreshRateHz * (d.toNat + 1)) → cpvb = (d.toNat + 1) * cps →
    (d = s.viReg .vSync → exec (.swViVSync d) s = .next { s with events := [], outcome := .ok none }) ∧
    (d ≠ s.viReg .vSync → s.schedPending = false → s.viReg .vIntr < d → cpvb = 0 →
      exec (.swViVSync d) s = .next { s with faulted := true, events := [], outcome := .fault .zeroFramePeriod }) ∧
    (d ≠ s.viReg .vSync → ¬ (s.schedPending = false ∧ s.viReg .vIntr < d ∧ cpvb = 0) →
      ∃ t, exec (.swViVSync d) s = .next t ∧
        (∀ q, t.viReg q = if q = .vSync then d else s.viReg q) ∧
        (s.schedPending = true →
          t = { s with vi := t.vi, cps := cps, cpvb := cpvb, events := [], outcome := .ok none }) ∧
        (s.schedPending = false → s.viReg .vIntr < d →
          t = { s with
            vi := t.vi, cps := cps, cpvb := cpvb, schedPending := true, schedCountdown := cpvb,
            events := [.schedule cpvb], outcome := .ok none }) ∧
        (s.schedPending = false → ¬ s.viReg .vIntr < d →
          t = { s with
            vi := t.vi, cps := cps, cpvb := cpvb, events := [.diag (.armDeclined (s.viReg .vIntr) d)],
            outcome := .ok none }))

/-- `SW VI.V_INTR, D`: the word is stored and the arm decision runs, also for the stored value (R211, R212, R262; the
fault is the spec's decision 92 D23, log 18). -/
def Obligations.InterruptLineWriteArms : Prop :=
  ∀ (d : Word) (s : State),
    (s.schedPending = false → d < s.viReg .vSync → s.cpvb = 0 →
      exec (.swViVIntr d) s = .next { s with faulted := true, events := [], outcome := .fault .zeroFramePeriod }) ∧
    (¬ (s.schedPending = false ∧ d < s.viReg .vSync ∧ s.cpvb = 0) →
      ∃ t, exec (.swViVIntr d) s = .next t ∧
        (∀ q, t.viReg q = if q = .vIntr then d else s.viReg q) ∧
        (s.schedPending = true → t = { s with vi := t.vi, events := [], outcome := .ok none }) ∧
        (s.schedPending = false → d < s.viReg .vSync →
          t = { s with
            vi := t.vi, schedPending := true, schedCountdown := s.cpvb, events := [.schedule s.cpvb],
            outcome := .ok none }) ∧
        (s.schedPending = false → ¬ d < s.viReg .vSync →
          t = { s with
            vi := t.vi, events := [.diag (.armDeclined d (s.viReg .vSync))], outcome := .ok none }))

/-- `SW VI.CURRENT, D`: the acknowledge clears VI pending and notifies; D is discarded; nothing else changes (R213). -/
def Obligations.AcknowledgeClearsViPending : Prop :=
  ∀ (d : Word) (s : State), (encode (.swViCurrent d)).tw = 0x70000010#32 ∧
    ∃ t, exec (.swViCurrent d) s = .next t ∧
      (∀ k, (t.miReg .intr).getLsbD k = ((s.miReg .intr).getLsbD k && !(k == 3))) ∧
      (∀ r, r ≠ .intr → t.miReg r = s.miReg r) ∧
      t = { s with mi := t.mi, events := [.notify], cpuLine := t.line, outcome := .ok none }

/-- `LW VI.CURRENT`: bit 0 is the field parity; with cps > 0 the other bits are those of the wrapped scanline; the word
is written back and returned, and nothing else changes but the count of draws (R184, R218, R219; integers and floor 92
D20, log 20; P_UNTIL_NONE 92 D12, log 15; the draw 92 D10, log 5). -/
def Obligations.CurrentLineReadRecomputes : Prop :=
  ∀ (form : ReadForm) (s : State), ∃ (w : Word) (t : State), exec (.lwViCurrent form) s = .next t ∧
    t = { s with vi := t.vi, draws := t.draws, events := [], outcome := .ok (some ⟨form, w⟩) } ∧
    (∀ q, t.viReg q = if q = .current then w else s.viReg q) ∧
    w.getLsbD 0 = s.fieldParity.getLsbD 0 ∧
    (s.cps ≠ 0 → t.draws = s.draws ∧
      ∀ r raw line : Int, r = (if s.schedPending then s.schedCountdown else s.params.untilNone) →
        raw = Int.fdiv ((s.cpvb : Int) - r) (s.cps : Int) →
        line = (if raw ≥ ((s.viReg .vSync).toNat : Int) then raw - ((s.viReg .vSync).toNat : Int) else raw) →
        ∀ k, 1 ≤ k → w.getLsbD k = (BitVec.ofInt 32 line).getLsbD k)

/-- While a callback is pending with no more than one frame to go, the current line read is at most V (R218; in states
that meet the invariant, with V ≠ 0 and cps ≠ 0; 92 D20, log 20). -/
def Obligations.CurrentLineStaysWithinTheFrame : Prop :=
  ∀ (form : ReadForm) (s t : State), s.Inv → s.cps ≠ 0 → s.viReg .vSync ≠ 0 → s.schedPending = true →
    s.schedCountdown ≤ s.cpvb → exec (.lwViCurrent form) s = .next t →
    ∃ w, t.outcome = .ok (some ⟨form, w⟩) ∧ w.toNat ≤ (s.viReg .vSync).toNat

/-- Before a callback is armed, with cps > 0 and P_UNTIL_NONE at its reference value 0, the current line reads as the
parity alone (R307; 92 D12, log 15). -/
def Obligations.CurrentLineBeforeArmingIsTheParity : Prop :=
  ∀ (form : ReadForm) (s t : State), s.Inv → s.params.untilNone = 0 → s.cps ≠ 0 → s.schedPending = false →
    exec (.lwViCurrent form) s = .next t → t.outcome = .ok (some ⟨form, s.fieldParity.setWidth 32⟩)

/-- Only RESET writes the clock and the refresh rate, and it takes them from the television standard (R35). -/
def Obligations.ClockAndRefreshAreSetOnlyByReset : Prop :=
  (∀ (i : Instr) (s t : State), exec i s = .next t → (∀ tv, i ≠ .reset tv) →
    t.clockHz = s.clockHz ∧ t.refreshRateHz = s.refreshRateHz) ∧
  (∀ (tv : BitVec 8) (s t : State), exec (.reset tv) s = .next t →
    t.clockHz = clockOf s.params tv ∧ t.refreshRateHz = refreshOf s.params tv ∧
    (s.params = referenceParams → t.refreshRateHz = if tv = s.params.tvPal then 50 else 60))

/-- cps and cpvb are written only by RESET, which clears them, and by a V_SYNC write that changes the stored value (R36;
reset values 92 D9, log 7). -/
def Obligations.TimingIsWrittenOnlyByRetimeAndReset : Prop :=
  ∀ (i : Instr) (s t : State), exec i s = .next t →
    ((t.cps ≠ s.cps ∨ t.cpvb ≠ s.cpvb) → (∃ d, i = .swViVSync d ∧ d ≠ s.viReg .vSync) ∨ ∃ tv, i = .reset tv) ∧
    (∀ tv, i = .reset tv → t.cps = 0 ∧ t.cpvb = 0)

/-- Only the vertical-blank handler and RESET write the field parity: toggled when interlaced output is enabled, else 0
(R37; which TICK runs the handler is the spec's decision 92 D11, R241, log 16). -/
def Obligations.ParityIsWrittenOnlyByTheVblHandlerAndReset : Prop :=
  ∀ (i : Instr) (s t : State), exec i s = .next t →
    (t.fieldParity ≠ s.fieldParity →
      i = .vbl ∨ (∃ n : Nat, i = .tick n ∧ s.schedPending = true ∧ s.schedCountdown - (n : Int) ≤ 0) ∨
        ∃ tv, i = .reset tv) ∧
    (i = .vbl → t.outcome = .ok none → t.fieldParity = if s.interlaced then s.fieldParity ^^^ 1 else 0) ∧
    (∀ n : Nat, i = .tick n → s.schedPending = true → s.schedCountdown - (n : Int) ≤ 0 → t.outcome = .ok none →
      t.fieldParity = if s.interlaced then s.fieldParity ^^^ 1 else 0) ∧
    (∀ tv, i = .reset tv → t.fieldParity = 0)

/-! ## Events -/

/-- `VBL`: refused with nothing pending, a fault with cpvb = 0, else the five effects in order and nothing more (R220;
NoPendingVbl 92 D19, log 19; ZeroFramePeriod 92 D23, log 18; Present's payload 92 D17, log 27). -/
def Obligations.VerticalBlankHandler : Prop :=
  ∀ s : State,
    (s.schedPending = false →
      exec .vbl s = .next { s with refused := true, events := [], outcome := .refused (.noPendingVbl 0x81000000) }) ∧
    (s.schedPending = true → s.cpvb = 0 →
      exec .vbl s = .next { s with faulted := true, events := [], outcome := .fault .zeroFramePeriod }) ∧
    (s.schedPending = true → s.cpvb ≠ 0 →
      ∃ t, exec .vbl s = .next t ∧
        (∀ r, t.miReg r = if r = .intr then s.miReg .intr ||| 0x08#32 else s.miReg r) ∧
        t = { s with
          mi := t.mi
          fieldParity := if (s.viReg .control).getLsbD s.params.serrateBit then s.fieldParity ^^^ 1 else 0
          schedPending := true
          schedCountdown := s.cpvb
          cpuLine := t.line
          events := [.schedule s.cpvb, .notify, .present (s.viReg .dramAddr) (s.viReg .hWidth) (s.viReg .control), .yield]
          outcome := .ok none })

/-- `TICK n`: nothing with no callback pending; the countdown falls by n; a callback that is due fires once, as VBL
does, and the overrun is dropped (R241, R222; the reference scheduler is the spec's decision 92 D11, log 16). -/
def Obligations.TickAdvancesTheCountdown : Prop :=
  ∀ (n : Nat) (s : State),
    (s.schedPending = false → exec (.tick n) s = .next { s with events := [], outcome := .ok none }) ∧
    (s.schedPending = true → (n : Int) < s.schedCountdown →
      exec (.tick n) s = .next { s with schedCountdown := s.schedCountdown - n, events := [], outcome := .ok none }) ∧
    (s.schedPending = true → s.schedCountdown ≤ n → s.cpvb ≠ 0 → exec (.tick n) s = exec .vbl s) ∧
    (s.schedPending = true → s.schedCountdown ≤ n → s.cpvb = 0 →
      exec (.tick n) s = .next { s with faulted := true, events := [], outcome := .fault .zeroFramePeriod })

/-- A TICK that fires nothing can be split at any point (R241; 92 D11, log 16). -/
def Obligations.TicksThatDoNotFireAddUp : Prop :=
  ∀ (m n : Nat) (s : State), s.schedPending = true → ((m + n : Nat) : Int) < s.schedCountdown →
    ∃ t, exec (.tick m) s = .next t ∧ exec (.tick n) t = exec (.tick (m + n)) s

/-- `RESET tv`: every piece of state at the reset value of R43, the sticky flags kept, and nothing emitted (R290, R43;
values 92 D9, log 7; the model's own fields log 23). -/
def Obligations.ResetLeavesTheResetState : Prop :=
  ∀ (tv : BitVec 8) (s : State), ∃ t, exec (.reset tv) s = .next t ∧
    (∀ r, t.miReg r = if r = .version then s.params.miVersion else 0) ∧ (∀ r, t.viReg r = 0) ∧
    t = { s with
      mi := t.mi, vi := t.vi, miRaw := List.replicate s.params.miRawWords 0,
      viRaw := List.replicate s.params.viRawWords 0, clockHz := clockOf s.params tv,
      refreshRateHz := refreshOf s.params tv, cps := 0, cpvb := 0,
      fieldParity := 0, schedPending := false, schedCountdown := 0, quiet := false, cpuLine := false, events := [],
      outcome := .ok none }

/-- The clock and refresh rate of each standard; any other code is NTSC's, by parameter and at the reference values
(R291; PAL and MPAL clocks and the codes are general knowledge, 92 D8, log 10). -/
def Obligations.TelevisionStandards : Prop :=
  (∀ (p : Params) (tv : BitVec 8),
    (tv = p.tvPal → clockOf p tv = p.clockPal ∧ refreshOf p tv = p.refreshPal) ∧
    (tv ≠ p.tvPal → refreshOf p tv = p.refreshOther) ∧
    (tv ≠ p.tvPal → tv = p.tvMpal → clockOf p tv = p.clockMpal) ∧
    (tv ≠ p.tvPal → tv ≠ p.tvMpal → clockOf p tv = p.clockNtsc)) ∧
  (∀ tv : BitVec 8,
    clockOf referenceParams tv = (if tv = 0 then 49656530 else if tv = 2 then 48628316 else 48681812) ∧
    refreshOf referenceParams tv = if tv = 0 then 50 else 60)

/-- The machine right after power-on: the reset state of R43 with the NTSC standard and the reference parameters (the
standard is the model's choice, log 6; the values are the spec's own, 92 D9, log 7; the model's own fields log 8). -/
def Obligations.PowerOnState : Prop :=
  State.reset.params = referenceParams ∧ State.reset.miRaw = [] ∧ State.reset.viRaw = [] ∧
  (∀ r, State.reset.miReg r = if r = .version then referenceParams.miVersion else 0) ∧ (∀ r, State.reset.viReg r = 0) ∧
  State.reset.clockHz = 48681812 ∧ State.reset.refreshRateHz = 60 ∧ State.reset.cps = 0 ∧ State.reset.cpvb = 0 ∧
  State.reset.fieldParity = 0 ∧ State.reset.schedPending = false ∧ State.reset.quiet = false ∧
  State.reset.cpuLine = false ∧ State.reset.faulted = false ∧ State.reset.refused = false ∧ State.reset.line = false ∧
  State.reset.input = [] ∧ State.reset.events = [] ∧ State.reset.outcome = .idle

/-- `DUMP` emits one diagnostic with the raw stores and the scale factors, recomputes nothing, and changes nothing
(R247). -/
def Obligations.DumpReportsTheRawStores : Prop :=
  ∀ s : State, (encode .dump).tw = 0x86000000#32 ∧
    exec .dump s = .next { s with
      events := [.diag (.dump (s.store .mi) (s.store .vi) ((((s.viReg .xScale).toNat % 4096 : Nat) : Rat) / 1024)
        ((((s.viReg .yScale).toNat % 4096 : Nat) : Rat) / 1024))]
      outcome := .ok none }

/-- `QUIET q` sets the flag and nothing else, and no other instruction's effect depends on it (R248). -/
def Obligations.QuietSetsAFlagNoRuleReads : Prop :=
  (∀ (q : Bool) (s : State), (encode (.quiet q)).tw &&& 0xFFFFFFFE#32 = 0x87000000#32 ∧
    exec (.quiet q) s = .next { s with quiet := q, events := [], outcome := .ok none }) ∧
  (∀ (i : Instr) (q : Bool) (s t : State), exec i s = .next t → (∀ p, i ≠ .quiet p) → (∀ tv, i ≠ .reset tv) →
    exec i { s with quiet := q } = .next { t with quiet := q }) ∧
  (∀ (tv : BitVec 8) (q : Bool) (s : State), exec (.reset tv) { s with quiet := q } = exec (.reset tv) s)

/-! ## Whole-machine rules -/

/-- Transactions that store no word leave every byte of both windows as it was: every read but the current-line read,
the writes of read-only registers, and the diagnostics (R63, R68, R125). -/
def Obligations.TransactionsThatStoreNothingLeaveEveryByte : Prop :=
  ∀ (i : Instr) (s t : State), exec i s = .next t →
    ((∃ form r, i = miRead form r) ∨ (∃ form r, r ≠ .current ∧ i = viRead form r) ∨ (∃ d, i = .swMiVersion d) ∨
      (∃ d, i = .swMiIntr d) ∨ i = .dump ∨ ∃ q, i = .quiet q) →
    ∀ a, t.byteAt a = s.byteAt a

/-- Every step keeps the invariant, and no step writes a parameter (R6, R24, R25, R26, R35, R36, R141, R214, R241,
R262). -/
def Obligations.EveryStepKeepsTheInvariant : Prop :=
  ∀ s t : State, step s = .next t → t.params = s.params ∧ (s.Inv → t.Inv)

/-- The invariant holds after power-on (the standard is the model's choice, log 6; the reset values are the spec's own,
92 D9, log 7; the model's own fields log 8). -/
def Obligations.PowerOnMeetsTheInvariant : Prop :=
  State.reset.Inv

/-- Once a callback is armed one is always pending until a RESET: no run of steps without a RESET among its transactions
disarms it (R223, R302; 90_conflicts.md C8). -/
def Obligations.ArmedCallbackStaysArmedUntilReset : Prop :=
  ∀ (k : Nat) (s t : State), s.schedPending = true →
    (∀ x ∈ s.input, ∀ tv, decode s.params x ≠ .ok (.instr (.reset tv))) →
    Host.Core.run core k s = .next t → t.schedPending = true

/-- The sticky flags are never cleared, by any run of steps, not even by RESET (R41, R43; 92 D15). -/
def Obligations.StickyFlagsAreNeverCleared : Prop :=
  ∀ (k : Nat) (s t : State), Host.Core.run core k s = .next t →
    (s.faulted = true → t.faulted = true) ∧ (s.refused = true → t.refused = true)
end

