-- ==== Sys2Proof/Laws/Step.lean ====
section
/-! SUPPORT. What one instruction and one step can do, said once: `ExecCase` and `StepCase` list the shapes of effect with
the state each leaves, and `exec_case` and `step_case` say that every answer has one of them. -/

namespace Sys2Proof.Machine

/-- The shapes of effect of an instruction `i` from a state `s`, with the state `t` each leaves. -/
inductive ExecCase (i : Instr) (s t : State) : Prop where
  /-- An MI read (R140 to R143). -/
  | miRead (form : ReadForm) (r : MiReg) (hi : i = miRead form r)
      (ht : t = s.start.completed (some ⟨form, s.miReg r⟩))
  /-- A plain VI read (R180 to R183, R185 to R193). -/
  | viRead (form : ReadForm) (r : ViReg) (hr : r ≠ .current) (hi : i = viRead form r)
      (ht : t = s.start.completed (some ⟨form, s.viReg r⟩))
  /-- The current-line read (R184). -/
  | viCurrent (form : ReadForm) (hi : i = .lwViCurrent form)
      (ht : t = (s.start.spendDraw.setViReg .current (s.start.currentLine s.start.untilVbl)).completed
        (some ⟨form, s.start.currentLine s.start.untilVbl⟩))
  /-- An ignored write (R147, R148). -/
  | ignored (d : Word) (hi : i = .swMiVersion d ∨ i = .swMiIntr d) (ht : t = s.start.completed none)
  /-- The mode write without the DP clear (R146). -/
  | mode (d : Word) (hi : i = .swMiMode d) (hd : d.getLsbD 11 = false)
      (ht : t = (s.start.setMiReg .mode (modeAfterWrite d (s.miReg .mode))).completed none)
  /-- The mode write with the DP clear (R146). -/
  | modeDp (d : Word) (hi : i = .swMiMode d) (hd : d.getLsbD 11 = true)
      (ht : t = (((s.start.setMiReg .mode (modeAfterWrite d (s.miReg .mode))).setMiReg .intr
        (s.miReg .intr &&& ~~~sourceBit .dp)).notify).completed none)
  /-- The mask write that leaves no enabled source pending (R149). -/
  | maskQuiet (d : Word) (hi : i = .swMiIntrMask d) (hd : maskAfterWrite d (s.miReg .intrMask) &&& s.miReg .intr = 0)
      (ht : t = (s.start.setMiReg .intrMask (maskAfterWrite d (s.miReg .intrMask))).completed none)
  /-- The mask write that leaves an enabled source pending (R149). -/
  | maskNotify (d : Word) (hi : i = .swMiIntrMask d) (hd : maskAfterWrite d (s.miReg .intrMask) &&& s.miReg .intr ≠ 0)
      (ht : t = (s.start.setMiReg .intrMask (maskAfterWrite d (s.miReg .intrMask))).notify.completed none)
  /-- A plain VI write (R194 to R204). -/
  | viWrite (d : Word) (r : ViReg) (hr : r ≠ .current ∧ r ≠ .vSync ∧ r ≠ .vIntr) (hi : i = viWrite d r)
      (ht : t = (s.start.setViReg r d).completed none)
  /-- The interrupt-line write whose arm decision succeeds (R211). -/
  | vIntr (d : Word) (u : State) (hi : i = .swViVIntr d) (hu : arm (s.start.setViReg .vIntr d) = .ok u)
      (ht : t = u.completed none)
  /-- The interrupt-line write whose arm decision fails (R211, R262). -/
  | vIntrFault (d : Word) (hi : i = .swViVIntr d)
      (hu : arm (s.start.setViReg .vIntr d) = .error (.fault .zeroFramePeriod)) (ht : t = s.takeFault .zeroFramePeriod)
  /-- The vertical-sync write of the stored value (R210). -/
  | vSyncSame (d : Word) (hi : i = .swViVSync d) (hd : d = s.viReg .vSync) (ht : t = s.start.completed none)
  /-- The retiming write whose arm decision succeeds (R210). -/
  | vSync (d : Word) (u : State) (hi : i = .swViVSync d) (hd : d ≠ s.viReg .vSync)
      (hu : arm ((s.start.retime d).setViReg .vSync d) = .ok u) (ht : t = u.completed none)
  /-- The retiming write whose arm decision fails (R210, R262). -/
  | vSyncFault (d : Word) (hi : i = .swViVSync d) (hd : d ≠ s.viReg .vSync)
      (hu : arm ((s.start.retime d).setViReg .vSync d) = .error (.fault .zeroFramePeriod))
      (ht : t = s.takeFault .zeroFramePeriod)
  /-- The acknowledge (R213). -/
  | acknowledge (d : Word) (hi : i = .swViCurrent d)
      (ht : t = (s.start.setMiReg .intr (s.miReg .intr &&& ~~~sourceBit .vi)).notify.completed none)
  /-- A source raises its bit (R152). -/
  | raised (src : Source) (hi : i = .raise src)
      (ht : t = (s.start.setMiReg .intr (s.miReg .intr ||| sourceBit src)).notify.completed none)
  /-- A source's bit is cleared (R153). -/
  | cleared (src : Source) (hi : i = .clear src)
      (ht : t = (s.start.setMiReg .intr (s.miReg .intr &&& ~~~sourceBit src)).notify.completed none)
  /-- The vertical blank (R220). -/
  | vbl (hi : i = .vbl) (hp : s.schedPending = true) (hc : s.cpvb ≠ 0) (ht : t = s.start.afterVbl.completed none)
  /-- The vertical blank with an empty frame (R262). -/
  | vblFault (hi : i = .vbl) (hp : s.schedPending = true) (hc : s.cpvb = 0) (ht : t = s.takeFault .zeroFramePeriod)
  /-- A vertical blank with no callback pending (R220). -/
  | vblRefused (hi : i = .vbl) (hp : s.schedPending = false) (ht : t = s.takeRefusal (.noPendingVbl 0x81000000))
  /-- A tick with no callback pending (R241). -/
  | tickNone (n : Nat) (hi : i = .tick n) (hp : s.schedPending = false) (ht : t = s.start.completed none)
  /-- A tick that brings no callback due (R241). -/
  | tickWait (n : Nat) (hi : i = .tick n) (hp : s.schedPending = true) (hn : ¬ s.schedCountdown - (n : Int) ≤ 0)
      (ht : t = { s.start with schedCountdown := s.schedCountdown - n }.completed none)
  /-- A tick that fires the callback (R241). -/
  | tickFire (n : Nat) (hi : i = .tick n) (hp : s.schedPending = true) (hn : s.schedCountdown - (n : Int) ≤ 0)
      (hc : s.cpvb ≠ 0) (ht : t = s.start.afterVbl.completed none)
  /-- A tick that fires with an empty frame (R262). -/
  | tickFault (n : Nat) (hi : i = .tick n) (hp : s.schedPending = true) (hn : s.schedCountdown - (n : Int) ≤ 0)
      (hc : s.cpvb = 0) (ht : t = s.takeFault .zeroFramePeriod)
  /-- A reset (R290). -/
  | reset (tv : BitVec 8) (hi : i = .reset tv) (ht : t = (s.resetTo tv).completed none)
  /-- The diagnostic dump (R247). -/
  | dump (hi : i = .dump) (ht : t = (s.start.emit (.diag (.dump (s.store .mi) (s.store .vi) s.xScale s.yScale))).completed none)
  /-- The quiet flag (R248). -/
  | quiet (q : Bool) (hi : i = .quiet q) (ht : t = { s.start with quiet := q }.completed none)

/-- The handler forgets the countdown it fires at. -/
theorem afterVbl_countdown (s : State) (c : Int) : ({ s with schedCountdown := c } : State).afterVbl = s.afterVbl := rfl

/-- The answers of the instructions with more than one path, as conditionals over their operands and the state. -/
theorem exec_vbl (s : State) :
    exec .vbl s = if s.schedPending then
        if s.cpvb = 0 then .next (s.takeFault .zeroFramePeriod) else .next (s.start.afterVbl.completed none)
      else .next (s.takeRefusal (.noPendingVbl 0x81000000)) := by
  have he : (encode .vbl).tw = 0x81000000 := by decide
  by_cases hp : s.schedPending = true <;> by_cases hc : s.cpvb = 0 <;>
    simp [exec, execVbl, hp, hc, he, onVerticalBlank_eq]

theorem exec_tick (n : Nat) (s : State) :
    exec (.tick n) s = if s.schedPending then
        if s.schedCountdown - (n : Int) ≤ 0 then
          if s.cpvb = 0 then .next (s.takeFault .zeroFramePeriod) else .next (s.start.afterVbl.completed none)
        else .next ({ s.start with schedCountdown := s.schedCountdown - n }.completed none)
      else .next (s.start.completed none) := by
  by_cases hp : s.schedPending = true <;> by_cases hn : s.schedCountdown - (n : Int) ≤ 0 <;> by_cases hc : s.cpvb = 0 <;>
    simp [exec, execTick, hp, hn, hc, onVerticalBlank_eq] <;> rfl

theorem exec_swViVIntr (d : Word) (s : State) :
    exec (.swViVIntr d) s = s.commit (do let u ← arm (s.start.setViReg .vIntr d); return u.completed none) := by
  simp [exec, execSwViVIntr]

theorem exec_swViVSync (d : Word) (s : State) :
    exec (.swViVSync d) s = if d = s.viReg .vSync then .next (s.start.completed none)
      else s.commit (do let u ← arm ((s.start.retime d).setViReg .vSync d); return u.completed none) := by
  by_cases hd : d = s.viReg .vSync
  · simp [exec, execSwViVSync, hd]
  · simp [exec, execSwViVSync, hd]

theorem exec_swMiMode (d : Word) (s : State) :
    exec (.swMiMode d) s = if d.getLsbD 11 then
        .next ((((s.start.setMiReg .mode (modeAfterWrite d (s.miReg .mode))).setMiReg .intr
          (s.miReg .intr &&& ~~~sourceBit .dp)).notify).completed none)
      else .next ((s.start.setMiReg .mode (modeAfterWrite d (s.miReg .mode))).completed none) := by
  by_cases hd : d.getLsbD 11 = true <;>
    simp only [exec, execSwMiMode, hd, clearDpBit, rbReadWord_mi, rbWriteWord_mi, except_bind_ok, except_pure, miClear_eq,
      if_true, if_false, State.commit_ok, Bool.false_eq_true, State.setMiReg_miReg, State.start_miReg, reduceCtorEq] <;> rfl

theorem exec_swMiIntrMask (d : Word) (s : State) :
    exec (.swMiIntrMask d) s = if maskAfterWrite d (s.miReg .intrMask) &&& s.miReg .intr = 0 then
        .next ((s.start.setMiReg .intrMask (maskAfterWrite d (s.miReg .intrMask))).completed none)
      else .next ((s.start.setMiReg .intrMask (maskAfterWrite d (s.miReg .intrMask))).notify.completed none) := by
  by_cases hd : maskAfterWrite d (s.miReg .intrMask) &&& s.miReg .intr = 0#32 <;>
    simp [exec, execSwMiIntrMask, hd]

theorem exec_raise (src : Source) (s : State) :
    exec (.raise src) s =
      .next ((s.start.setMiReg .intr (s.miReg .intr ||| sourceBit src)).notify.completed none) := by
  simp [exec, execRaise]

theorem exec_clear (src : Source) (s : State) :
    exec (.clear src) s =
      .next ((s.start.setMiReg .intr (s.miReg .intr &&& ~~~sourceBit src)).notify.completed none) := by
  simp [exec, execClear]

theorem exec_swViCurrent (d : Word) (s : State) :
    exec (.swViCurrent d) s =
      .next ((s.start.setMiReg .intr (s.miReg .intr &&& ~~~sourceBit .vi)).notify.completed none) := by
  simp [exec, execSwViCurrent]

/-- Every answer of `exec` has one of the shapes of `ExecCase`. -/
theorem exec_case (i : Instr) (s t : State) (h : exec i s = .next t) : ExecCase i s t := by
  have rd : ∀ form r, exec (miRead form r) s = .next t → ExecCase (miRead form r) s t := fun form r h => by
    rw [exec_miRead] at h; cases h; exact .miRead form r rfl rfl
  have rv : ∀ form r, r ≠ .current → exec (viRead form r) s = .next t → ExecCase (viRead form r) s t :=
    fun form r hr h => by rw [exec_viRead _ _ _ hr] at h; cases h; exact .viRead form r hr rfl rfl
  have wv : ∀ d r, (r ≠ .current ∧ r ≠ .vSync ∧ r ≠ .vIntr) → exec (viWrite d r) s = .next t →
      ExecCase (viWrite d r) s t :=
    fun d r hr h => by rw [exec_viWrite _ _ _ hr] at h; cases h; exact .viWrite d r hr rfl rfl
  cases i
  case lwMiMode f => exact rd f .mode h
  case lwMiVersion f => exact rd f .version h
  case lwMiIntr f => exact rd f .intr h
  case lwMiIntrMask f => exact rd f .intrMask h
  case lwViControl f => exact rv f .control (by decide) h
  case lwViDramAddr f => exact rv f .dramAddr (by decide) h
  case lwViHWidth f => exact rv f .hWidth (by decide) h
  case lwViVIntr f => exact rv f .vIntr (by decide) h
  case lwViCurrent f => rw [exec_lwViCurrent] at h; cases h; exact .viCurrent f rfl rfl
  case lwViBurst f => exact rv f .burst (by decide) h
  case lwViVSync f => exact rv f .vSync (by decide) h
  case lwViHSync f => exact rv f .hSync (by decide) h
  case lwViLeap f => exact rv f .leap (by decide) h
  case lwViHStart f => exact rv f .hStart (by decide) h
  case lwViVStart f => exact rv f .vStart (by decide) h
  case lwViVBurst f => exact rv f .vBurst (by decide) h
  case lwViXScale f => exact rv f .xScale (by decide) h
  case lwViYScale f => exact rv f .yScale (by decide) h
  case swMiMode d =>
    rw [exec_swMiMode] at h
    split at h <;> cases h
    · exact .modeDp d rfl ‹_› rfl
    · exact .mode d rfl (Bool.eq_false_of_not_eq_true ‹_›) rfl
  case swMiVersion d => cases h; exact .ignored d (.inl rfl) rfl
  case swMiIntr d => cases h; exact .ignored d (.inr rfl) rfl
  case swMiIntrMask d =>
    rw [exec_swMiIntrMask] at h
    split at h <;> cases h
    · exact .maskQuiet d rfl ‹_› rfl
    · exact .maskNotify d rfl ‹_› rfl
  case swViControl d => exact wv d .control (by decide) h
  case swViDramAddr d => exact wv d .dramAddr (by decide) h
  case swViHWidth d => exact wv d .hWidth (by decide) h
  case swViVIntr d =>
    rw [exec_swViVIntr] at h
    cases hu : arm (s.start.setViReg .vIntr d) with
    | ok u => rw [hu] at h; cases h; exact .vIntr d u rfl hu rfl
    | error a =>
      obtain rfl := (arm_error _ _ hu).1
      rw [hu] at h; cases h; exact .vIntrFault d rfl hu rfl
  case swViCurrent d =>
    rw [exec_swViCurrent] at h; cases h; exact .acknowledge d rfl rfl
  case swViBurst d => exact wv d .burst (by decide) h
  case swViVSync d =>
    rw [exec_swViVSync] at h
    split at h
    · cases h; exact .vSyncSame d rfl ‹_› rfl
    · cases hu : arm ((s.start.retime d).setViReg .vSync d) with
      | ok u => rw [hu] at h; cases h; exact .vSync d u rfl ‹_› hu rfl
      | error a =>
        obtain rfl := (arm_error _ _ hu).1
        rw [hu] at h; cases h; exact .vSyncFault d rfl ‹_› hu rfl
  case swViHSync d => exact wv d .hSync (by decide) h
  case swViLeap d => exact wv d .leap (by decide) h
  case swViHStart d => exact wv d .hStart (by decide) h
  case swViVStart d => exact wv d .vStart (by decide) h
  case swViVBurst d => exact wv d .vBurst (by decide) h
  case swViXScale d => exact wv d .xScale (by decide) h
  case swViYScale d => exact wv d .yScale (by decide) h
  case vbl =>
    rw [exec_vbl] at h
    split at h
    · split at h <;> cases h
      · exact .vblFault rfl ‹_› ‹_› rfl
      · exact .vbl rfl ‹_› ‹_› rfl
    · cases h; exact .vblRefused rfl (Bool.eq_false_of_not_eq_true ‹_›) rfl
  case raise src =>
    rw [exec_raise] at h; cases h; exact .raised src rfl rfl
  case clear src =>
    rw [exec_clear] at h; cases h; exact .cleared src rfl rfl
  case reset tv => cases h; exact .reset tv rfl rfl
  case tick n =>
    rw [exec_tick] at h
    split at h
    · split at h
      · split at h <;> cases h
        · exact .tickFault n rfl ‹_› ‹_› ‹_› rfl
        · exact .tickFire n rfl ‹_› ‹_› ‹_› rfl
      · cases h; exact .tickWait n rfl ‹_› ‹_› rfl
    · cases h; exact .tickNone n rfl (Bool.eq_false_of_not_eq_true ‹_›) rfl
  case dump => cases h; exact .dump rfl rfl
  case quiet q => cases h; exact .quiet q rfl rfl

/-- A raw read in bounds returns the word and does nothing else (R144, R206). -/
theorem execRawRead_ok (b : Block) (o : Nat) (form : ReadForm) (s : State) (h : inBounds s.params b o 4 = true) :
    execRawRead b o form s = .next (s.start.completed (some ⟨form, s.word b (o / 4)⟩)) := by
  simp [execRawRead, busRead, rbReadWord_ok b o s.start h]

/-- A raw write in bounds stores the word and emits its diagnostic (R150, R205). -/
theorem execRawWrite_ok (b : Block) (o : Nat) (d : Word) (s : State) (h : inBounds s.params b o 4 = true) :
    execRawWrite b o d s =
      .next (((s.start.setWord b (o / 4) d).emit (.diag (.unexpectedWrite b o d))).completed none) := by
  simp [execRawWrite, rbWriteWord_ok b o d s.start h]

/-- The shapes of effect of one step from a state `s`, with the state `t` each leaves. -/
inductive StepCase (s t : State) : Prop where
  /-- No transaction is presented. -/
  | idle (hs : s.input = []) (ht : t = s.idleStep)
  /-- The decoder turns the transaction away (R103). -/
  | rejected (x : Transaction) (rest : List Transaction) (r : Reject) (hs : s.input = x :: rest)
      (hd : decode s.params x = .error r) (ht : t = ({ s with input := rest } : State).takeReject x r)
  /-- A row's instruction. -/
  | instr (x : Transaction) (rest : List Transaction) (i : Instr) (hs : s.input = x :: rest)
      (hd : decode s.params x = .ok (.instr i)) (ht : ExecCase i { s with input := rest } t)
  /-- A raw read (R144, R206). -/
  | rawRead (x : Transaction) (rest : List Transaction) (b : Block) (o : Nat) (form : ReadForm) (hs : s.input = x :: rest)
      (hd : decode s.params x = .ok (.rawRead b o form))
      (ht : t = ({ s with input := rest } : State).start.completed (some ⟨form, s.word b (o / 4)⟩))
  /-- A raw write (R150, R205). -/
  | rawWrite (x : Transaction) (rest : List Transaction) (b : Block) (o : Nat) (d : Word) (hs : s.input = x :: rest)
      (hd : decode s.params x = .ok (.rawWrite b o d))
      (ht : t = (((({ s with input := rest } : State).start.setWord b (o / 4) d).emit
        (.diag (.unexpectedWrite b o d))).completed none))

/-- Every answer of `step` has one of the shapes of `StepCase`. -/
theorem step_case (s t : State) (h : step s = .next t) : StepCase s t := by
  match hs : s.input with
  | [] =>
    simp only [step, State.fetch, hs] at h
    cases h; exact .idle hs rfl
  | x :: rest =>
    simp only [step, State.fetch, hs] at h
    match hd : decode s.params x with
    | .error r => rw [hd] at h; cases h; exact .rejected x rest r hs hd rfl
    | .ok (.instr i) => rw [hd] at h; exact .instr x rest i hs hd (exec_case i _ t h)
    | .ok (.rawRead b o form) =>
      rw [hd] at h
      simp only [runDecoded] at h
      rw [execRawRead_ok b o form { s with input := rest } (decode_rawRead _ _ _ _ _ hd).1] at h
      cases h; exact .rawRead x rest b o form hs hd (by cases b <;> rfl)
    | .ok (.rawWrite b o d) =>
      rw [hd] at h
      simp only [runDecoded] at h
      rw [execRawWrite_ok b o d { s with input := rest } (decode_rawWrite _ _ _ _ _ hd).1] at h
      cases h; exact .rawWrite x rest b o d hs hd rfl

end Sys2Proof.Machine
end

