-- ==== Sys2Proof/Tests/Slice0.lean ====
section
/-! SUPPORT. The model's own tests: the well-formedness smoke tests, every constructor's decoding from a word written out
from R101, R102 and R107, one-step tests whose results are those of 95_test_vectors.md, and a witness for the hypotheses of
every obligation that has any. -/

namespace Sys2Proof.Tests

open Machine

/-! ## Small states -/

/-- The state an answer leaves. -/
def after : Host.Outcome State Fault Refusal → Option State
  | .next s => some s
  | _ => none

/-- One field of the state an instruction leaves. -/
def view {α : Type} (f : State → α) (i : Instr) (s : State) : Option α :=
  (after (exec i s)).map f

/-- The word a read returned. -/
def readWordOf (s : State) : Option Word :=
  match s.outcome with
  | .ok (some r) => some r.word
  | _ => none

/-- The reset state with a pending and a mask vector. -/
def lines (pend mask : Word) : State :=
  (State.reset.setMiReg .intr pend).setMiReg .intrMask mask

/-- The reset state with NTSC's timing for V = 524 and no callback pending (95_test_vectors.md, S3). -/
def timed : State :=
  { State.reset.setViReg .vSync 524 with cps := 1545, cpvb := 811125 }

/-- The same with a callback pending. -/
def armed (r : Int) : State :=
  { timed with schedPending := true, schedCountdown := r }

/-- The state of ZF3: V = 811 363 stored while L = 0xFFFF_FFFF, so the frame period is 0 and nothing is pending. -/
def empty : State :=
  (State.reset.setViReg .vIntr 0xFFFFFFFF).setViReg .vSync 811363

/-- The state of ZF6: armed at V = 524, then V = 900 000 stored. -/
def emptyArmed (r : Int) : State :=
  { State.reset.setViReg .vSync 900000 with schedPending := true, schedCountdown := r }

/-- The reset state of a block whose stores have undecoded words above their registers: P_MI_LEN = 20, P_VI_LEN = 64. -/
def longer : State :=
  State.construct { referenceParams with miRawWords := 1, viRawWords := 2 } 1

/-- A state with one transaction presented. -/
def presenting (t : Transaction) (s : State) : State :=
  { s with input := [t] }

/-! ## Well-formedness: one ill-formed transaction for each check -/

/-- DC1: K = 11. -/
theorem test_wf_kind : kindOk ⟨0xC0000000, 0, 0⟩ = false ∧ Transaction.wellFormed referenceParams ⟨0xC0000000, 0, 0⟩ = false := by decide

/-- DC2: bits 25:24 of a bus word. -/
theorem test_wf_bus_zero : busZeroOk ⟨0x11000000, 0, 0⟩ = false ∧ Transaction.wellFormed referenceParams ⟨0x11000000, 0, 0⟩ = false := by
  decide

/-- DC3: a write with S = 1. -/
theorem test_wf_write_form : writeFormOk ⟨0x54000000, 5, 0⟩ = false ∧ Transaction.wellFormed referenceParams ⟨0x54000000, 5, 0⟩ = false := by
  decide

/-- RB8: one byte. -/
theorem test_wf_width : widthOk ⟨0x00000000, 0, 0⟩ = false ∧ Transaction.wellFormed referenceParams ⟨0x00000000, 0, 0⟩ = false := by decide

/-- RB2: past the MI's four words. -/
theorem test_wf_bounds : boundsOk referenceParams ⟨0x10000010, 0, 0⟩ = false ∧ Transaction.wellFormed referenceParams ⟨0x10000010, 0, 0⟩ = false := by decide

/-- DC8: bits 23:8 of an event word. -/
theorem test_wf_event_zero : eventZeroOk ⟨0x82000100, 0, 0⟩ = false ∧ Transaction.wellFormed referenceParams ⟨0x82000100, 0, 0⟩ = false := by
  decide

/-- DC4 and DC5: event codes 0 and 8. -/
theorem test_wf_event_code : eventCodeOk ⟨0x80000000, 0, 0⟩ = false ∧ eventCodeOk ⟨0x88000000, 0, 0⟩ = false ∧
    Transaction.wellFormed referenceParams ⟨0x80000000, 0, 0⟩ = false ∧ Transaction.wellFormed referenceParams ⟨0x88000000, 0, 0⟩ = false := by decide

/-- DC6, DC7 and DC9: argument bits that must be 0. -/
theorem test_wf_event_arg : eventArgOk ⟨0x81000001, 0, 0⟩ = false ∧ eventArgOk ⟨0x82000008, 0, 0⟩ = false ∧
    eventArgOk ⟨0x87000002, 0, 0⟩ = false ∧ Transaction.wellFormed referenceParams ⟨0x81000001, 0, 0⟩ = false := by decide

/-- RC6: the source index 6. -/
theorem test_wf_source : sourceOk ⟨0x82000006, 0, 0⟩ = false ∧ Transaction.wellFormed referenceParams ⟨0x82000006, 0, 0⟩ = false := by decide

/-- R100: write data beside a read. -/
theorem test_wf_data : dataOk ⟨0x10000000, 1, 0⟩ = false ∧ Transaction.wellFormed referenceParams ⟨0x10000000, 1, 0⟩ = false := by decide

/-- R100: a cycle count beside a dump. -/
theorem test_wf_cycles : cyclesOk ⟨0x86000000, 0, 1⟩ = false ∧ Transaction.wellFormed referenceParams ⟨0x86000000, 0, 1⟩ = false := by decide

/-! ## Decoding: a word for every constructor -/

/-- R101 field by field: K, U, W, S, zeros, O. -/
theorem test_decode_read_bits :
    decode referenceParams ⟨0b00_0_10_0_00_000000000000000000001000#32, 0, 0⟩ = .ok (.instr (.lwMiIntr .u32)) ∧
    decode referenceParams ⟨0b00_1_10_1_00_000000000000000000110100#32, 0, 0⟩ = .ok (.instr (.lwViYScale .s32)) := by decide

/-- R101 field by field: a write. -/
theorem test_decode_write_bits :
    decode referenceParams ⟨0b01_0_10_0_00_000000000000000000000000#32, 0x2500, 0⟩ = .ok (.instr (.swMiMode 0x2500)) ∧
    decode referenceParams ⟨0b01_1_10_0_00_000000000000000000100100#32, 0x006C02EC, 0⟩ = .ok (.instr (.swViHStart 0x006C02EC)) := by decide

/-- R102 field by field: K, E, zeros, A. -/
theorem test_decode_event_bits :
    decode referenceParams ⟨0b10_000010_0000000000000000_00000011#32, 0, 0⟩ = .ok (.instr (.raise .vi)) ∧
    decode referenceParams ⟨0b10_000100_0000000000000000_00000010#32, 0, 0⟩ = .ok (.instr (.reset 2)) := by decide

theorem test_decode_mi_reads :
    decode referenceParams ⟨0x10000000, 0, 0⟩ = .ok (.instr (.lwMiMode .u32)) ∧ decode referenceParams ⟨0x14000000, 0, 0⟩ = .ok (.instr (.lwMiMode .s32)) ∧
    decode referenceParams ⟨0x10000004, 0, 0⟩ = .ok (.instr (.lwMiVersion .u32)) ∧
    decode referenceParams ⟨0x10000008, 0, 0⟩ = .ok (.instr (.lwMiIntr .u32)) ∧
    decode referenceParams ⟨0x1000000C, 0, 0⟩ = .ok (.instr (.lwMiIntrMask .u32)) := by decide

theorem test_decode_mi_writes :
    decode referenceParams ⟨0x50000000, 0x180, 0⟩ = .ok (.instr (.swMiMode 0x180)) ∧
    decode referenceParams ⟨0x50000004, 7, 0⟩ = .ok (.instr (.swMiVersion 7)) ∧
    decode referenceParams ⟨0x50000008, 0xFF, 0⟩ = .ok (.instr (.swMiIntr 0xFF)) ∧
    decode referenceParams ⟨0x5000000C, 0xC0, 0⟩ = .ok (.instr (.swMiIntrMask 0xC0)) := by decide

theorem test_decode_vi_reads_first :
    decode referenceParams ⟨0x30000000, 0, 0⟩ = .ok (.instr (.lwViControl .u32)) ∧
    decode referenceParams ⟨0x30000004, 0, 0⟩ = .ok (.instr (.lwViDramAddr .u32)) ∧
    decode referenceParams ⟨0x30000008, 0, 0⟩ = .ok (.instr (.lwViHWidth .u32)) ∧
    decode referenceParams ⟨0x3000000C, 0, 0⟩ = .ok (.instr (.lwViVIntr .u32)) ∧
    decode referenceParams ⟨0x30000010, 0, 0⟩ = .ok (.instr (.lwViCurrent .u32)) ∧
    decode referenceParams ⟨0x30000014, 0, 0⟩ = .ok (.instr (.lwViBurst .u32)) ∧
    decode referenceParams ⟨0x30000018, 0, 0⟩ = .ok (.instr (.lwViVSync .u32)) := by decide

theorem test_decode_vi_reads_other :
    decode referenceParams ⟨0x3000001C, 0, 0⟩ = .ok (.instr (.lwViHSync .u32)) ∧
    decode referenceParams ⟨0x30000020, 0, 0⟩ = .ok (.instr (.lwViLeap .u32)) ∧
    decode referenceParams ⟨0x30000024, 0, 0⟩ = .ok (.instr (.lwViHStart .u32)) ∧
    decode referenceParams ⟨0x30000028, 0, 0⟩ = .ok (.instr (.lwViVStart .u32)) ∧
    decode referenceParams ⟨0x3000002C, 0, 0⟩ = .ok (.instr (.lwViVBurst .u32)) ∧
    decode referenceParams ⟨0x30000030, 0, 0⟩ = .ok (.instr (.lwViXScale .u32)) ∧
    decode referenceParams ⟨0x30000034, 0, 0⟩ = .ok (.instr (.lwViYScale .u32)) := by decide

theorem test_decode_vi_writes_first :
    decode referenceParams ⟨0x70000000, 0x43, 0⟩ = .ok (.instr (.swViControl 0x43)) ∧
    decode referenceParams ⟨0x70000004, 0x100000, 0⟩ = .ok (.instr (.swViDramAddr 0x100000)) ∧
    decode referenceParams ⟨0x70000008, 0x140, 0⟩ = .ok (.instr (.swViHWidth 0x140)) ∧
    decode referenceParams ⟨0x7000000C, 0x258, 0⟩ = .ok (.instr (.swViVIntr 0x258)) ∧
    decode referenceParams ⟨0x70000010, 0x1234, 0⟩ = .ok (.instr (.swViCurrent 0x1234)) ∧
    decode referenceParams ⟨0x70000014, 0x03E52239, 0⟩ = .ok (.instr (.swViBurst 0x03E52239)) ∧
    decode referenceParams ⟨0x70000018, 0x20C, 0⟩ = .ok (.instr (.swViVSync 0x20C)) := by decide

theorem test_decode_vi_writes_other :
    decode referenceParams ⟨0x7000001C, 0x0C15, 0⟩ = .ok (.instr (.swViHSync 0x0C15)) ∧
    decode referenceParams ⟨0x70000020, 0x0C150C15, 0⟩ = .ok (.instr (.swViLeap 0x0C150C15)) ∧
    decode referenceParams ⟨0x70000024, 0x006C02EC, 0⟩ = .ok (.instr (.swViHStart 0x006C02EC)) ∧
    decode referenceParams ⟨0x70000028, 0x002501FF, 0⟩ = .ok (.instr (.swViVStart 0x002501FF)) ∧
    decode referenceParams ⟨0x7000002C, 0x000E0204, 0⟩ = .ok (.instr (.swViVBurst 0x000E0204)) ∧
    decode referenceParams ⟨0x70000030, 0x200, 0⟩ = .ok (.instr (.swViXScale 0x200)) ∧
    decode referenceParams ⟨0x70000034, 0xFFF, 0⟩ = .ok (.instr (.swViYScale 0xFFF)) := by decide

theorem test_decode_events :
    decode referenceParams ⟨0x81000000, 0, 0⟩ = .ok (.instr .vbl) ∧ decode referenceParams ⟨0x82000005, 0, 0⟩ = .ok (.instr (.raise .dp)) ∧
    decode referenceParams ⟨0x83000004, 0, 0⟩ = .ok (.instr (.clear .pi)) ∧ decode referenceParams ⟨0x84000003, 0, 0⟩ = .ok (.instr (.reset 3)) ∧
    decode referenceParams ⟨0x85000000, 0, 811125⟩ = .ok (.instr (.tick 811125)) ∧ decode referenceParams ⟨0x86000000, 0, 0⟩ = .ok (.instr .dump) ∧
    decode referenceParams ⟨0x87000001, 0, 0⟩ = .ok (.instr (.quiet true)) ∧ decode referenceParams ⟨0x87000000, 0, 0⟩ = .ok (.instr (.quiet false)) := by decide

/-- The six sources in the order of R27. -/
theorem test_decode_sources :
    decode referenceParams ⟨0x82000000, 0, 0⟩ = .ok (.instr (.raise .sp)) ∧ decode referenceParams ⟨0x82000001, 0, 0⟩ = .ok (.instr (.raise .si)) ∧
    decode referenceParams ⟨0x82000002, 0, 0⟩ = .ok (.instr (.raise .ai)) ∧ decode referenceParams ⟨0x82000003, 0, 0⟩ = .ok (.instr (.raise .vi)) ∧
    decode referenceParams ⟨0x82000004, 0, 0⟩ = .ok (.instr (.raise .pi)) ∧ decode referenceParams ⟨0x83000005, 0, 0⟩ = .ok (.instr (.clear .dp)) := by decide

/-- RB2, RB3, RB5, RB6 and RB7: the faults, with the bus address each reports. -/
theorem test_decode_bounds :
    decode referenceParams ⟨0x10000010, 0, 0⟩ = .error (.boundsError 0x04300010 4) ∧
    decode referenceParams ⟨0x10000002, 0, 0⟩ = .error (.boundsError 0x04300002 4) ∧
    decode referenceParams ⟨0x30000036, 0, 0⟩ = .error (.boundsError 0x04400036 4) ∧
    decode referenceParams ⟨0x70000038, 1, 0⟩ = .error (.boundsError 0x04400038 4) ∧
    decode referenceParams ⟨0x10FFFFFC, 0, 0⟩ = .error (.boundsError 0x052FFFFC 4) := by decide

/-- RB8 to RB11, DC14: the other widths, before the bounds (R265). -/
theorem test_decode_widths :
    decode referenceParams ⟨0x00000000, 0, 0⟩ = .error .unsupportedWidth ∧ decode referenceParams ⟨0x28000010, 0, 0⟩ = .error .unsupportedWidth ∧
    decode referenceParams ⟨0x18001000, 0, 0⟩ = .error .unsupportedWidth ∧ decode referenceParams ⟨0x78000018, 1, 0⟩ = .error .unsupportedWidth ∧
    decode referenceParams ⟨0x08001000, 0, 0⟩ = .error .unsupportedWidth := by decide

/-- DC1 to DC9, RC6 and RC7: the reserved words and the missing sources. -/
theorem test_decode_reserved :
    decode referenceParams ⟨0xC0000000, 0, 0⟩ = .error .reservedTransaction ∧ decode referenceParams ⟨0x11000000, 0, 0⟩ = .error .reservedTransaction ∧
    decode referenceParams ⟨0x54000000, 5, 0⟩ = .error .reservedTransaction ∧ decode referenceParams ⟨0x80000000, 0, 0⟩ = .error .reservedTransaction ∧
    decode referenceParams ⟨0x88000000, 0, 0⟩ = .error .reservedTransaction ∧ decode referenceParams ⟨0x81000001, 0, 0⟩ = .error .reservedTransaction ∧
    decode referenceParams ⟨0x82000008, 0, 0⟩ = .error .reservedTransaction ∧ decode referenceParams ⟨0x82000100, 0, 0⟩ = .error .reservedTransaction ∧
    decode referenceParams ⟨0x87000002, 0, 0⟩ = .error .reservedTransaction ∧ decode referenceParams ⟨0x82000006, 0, 0⟩ = .error .badSource ∧
    decode referenceParams ⟨0x83000007, 0, 0⟩ = .error .badSource := by decide

/-- The host's own two entry points, on a row with no operand and on one with a 32-bit operand. -/
theorem test_table_word : decodeTableWord 32 0x30000010 = some (.lwViCurrent .u32) ∧
    decodeTableWord 64 0x0000020C70000018 = some (.swViVSync 524) ∧ decodeTableWord 32 0xC0000000 = none := by decide

theorem test_fetch_word : ((after (step (State.reset.withFetchWord 64 0x000000805000000C))).map (State.miReg .intrMask)) =
    some 0x08 := by decide

/-! ## One step of every instruction, with the results of 95_test_vectors.md -/

/-- MR5: the mode word, and that the signed form returns the same bits. -/
theorem test_lw_mi_mode : (view readWordOf (.lwMiMode .u32) (State.reset.setMiReg .mode 0x380)) = some (some 0x380) ∧
    (view readWordOf (.lwMiMode .s32) (State.reset.setMiReg .mode 0x380)) = some (some 0x380) := by decide

/-- MR1 and MR2. -/
theorem test_lw_mi_version : (view readWordOf (.lwMiVersion .u32) State.reset) = some (some 0x02020102) ∧
    (view readWordOf (.lwMiVersion .s32) State.reset) = some (some 0x02020102) := by decide

/-- MR3: no read-clear. -/
theorem test_lw_mi_intr : (view readWordOf (.lwMiIntr .u32) (lines 0x21 0)) = some (some 0x21) ∧
    (view (State.miReg .intr) (.lwMiIntr .u32) (lines 0x21 0)) = some 0x21 := by decide

/-- MR4. -/
theorem test_lw_mi_intr_mask : (view readWordOf (.lwMiIntrMask .u32) (lines 0 0x3F)) = some (some 0x3F) := by decide

/-- MM1, MM2, MM4, MM6: each flag set, and clear wins. -/
theorem test_sw_mi_mode_flags : (view (State.miReg .mode) (.swMiMode 0x0180) (State.reset.setMiReg .mode 0x380)) = some 0x300 ∧
    (view (State.miReg .mode) (.swMiMode 0x2500) State.reset) = some 0x380 ∧
    (view (State.miReg .mode) (.swMiMode 0x1280) (State.reset.setMiReg .mode 0x380)) = some 0x000 ∧
    (view (State.miReg .mode) (.swMiMode 0xFFFFC07F) (State.reset.setMiReg .mode 0x380)) = some 0x380 := by decide

/-- MD3 and MD2: the DP clear notifies whatever the pending vector. -/
theorem test_sw_mi_mode_dp : (view (State.miReg .intr) (.swMiMode 0x0800) (lines 0x28 0x08)) = some 0x08 ∧
    (view State.cpuLine (.swMiMode 0x0800) (lines 0x28 0x08)) = some true ∧
    (view State.events (.swMiMode 0x0800) (lines 0 0)) = some [.notify] := by decide

/-- RO1. -/
theorem test_sw_mi_version : (view (State.miReg .version) (.swMiVersion 0) State.reset) = some 0x02020102 := by decide

/-- RO3: a write does not clear pending. -/
theorem test_sw_mi_intr : (view (State.miReg .intr) (.swMiIntr 0) (lines 0x08 0)) = some 0x08 ∧
    (view State.events (.swMiIntr 0xFF) (lines 0 0x3F)) = some [] := by decide

/-- MK1 to MK5: every pair, set wins, and the ignored bits. -/
theorem test_sw_mi_intr_mask : (view (State.miReg .intrMask) (.swMiIntrMask 0x0AAA) State.reset) = some 0x3F ∧
    (view (State.miReg .intrMask) (.swMiIntrMask 0x0555) (lines 0 0x3F)) = some 0 ∧
    (view (State.miReg .intrMask) (.swMiIntrMask 0x0FFF) State.reset) = some 0x3F ∧
    (view (State.miReg .intrMask) (.swMiIntrMask 0xFFFFF000) (lines 0 0x3F)) = some 0x3F ∧
    (view (State.miReg .intrMask) (.swMiIntrMask 0x0C40) (lines 0 0x3F)) = some 0x37 := by decide

/-- MK7 and MK8: `Notify` with a line that stays at 1, and none when it drops; the CPU's flag is then stale. -/
theorem test_sw_mi_intr_mask_notify : (view State.events (.swMiIntrMask 0) (lines 0x01 0x37)) = some [.notify] ∧
    (view State.events (.swMiIntrMask 1) (lines 0x01 0x37)) = some [] ∧
    (view State.cpuLine (.swMiIntrMask 1) { lines 0x01 0x37 with cpuLine := true }) = some true := by decide

/-- VP1. -/
theorem test_sw_vi_control : (view (State.viReg .control) (.swViControl 0x3243) State.reset) = some 0x3243 ∧
    (view State.interlaced (.swViControl 0x3243) State.reset) = some true ∧
    (view State.is32bpp (.swViControl 0x3243) State.reset) = some true ∧
    (view State.is32bpp (.swViControl 0x2) State.reset) = some false := by decide

/-- R180's example. -/
theorem test_lw_vi_control : (view readWordOf (.lwViControl .u32) (State.reset.setViReg .control 0x3243)) =
    some (some 0x3243) := by decide

/-- VP3, VP4 and VP5. -/
theorem test_sw_vi_plain_first : (view (State.viReg .dramAddr) (.swViDramAddr 0x100000) State.reset) = some 0x100000 ∧
    (view (State.viReg .hWidth) (.swViHWidth 320) State.reset) = some 0x140 ∧
    (view (State.viReg .burst) (.swViBurst 0x03E52239) State.reset) = some 0x03E52239 := by decide

/-- VP6 to VP10. -/
theorem test_sw_vi_plain_window : (view (State.viReg .hSync) (.swViHSync 0x0C15) State.reset) = some 0x0C15 ∧
    (view (State.viReg .leap) (.swViLeap 0x0C150C15) State.reset) = some 0x0C150C15 ∧
    (view (State.viReg .hStart) (.swViHStart 0x006C02EC) State.reset) = some 0x006C02EC ∧
    (view (State.viReg .vStart) (.swViVStart 0x002501FF) State.reset) = some 0x002501FF ∧
    (view (State.viReg .vBurst) (.swViVBurst 0x000E0204) State.reset) = some 0x000E0204 := by decide

/-- VP12 and VP13: the word whole, and a fraction of its low bits. -/
theorem test_sw_vi_scales : (view (State.viReg .yScale) (.swViYScale 0x01230400) State.reset) = some 0x01230400 ∧
    (view State.yScale (.swViYScale 0x01230400) State.reset) = some 1 ∧
    (view State.xScale (.swViXScale 0x0FFF) State.reset) = some (mkRat 4095 1024) := by decide

/-- R181, R182, R183, R185 and R186: each reads its own word. -/
theorem test_lw_vi_plain_first :
    (view readWordOf (.lwViDramAddr .u32) (State.reset.setViReg .dramAddr 0x100000)) = some (some 0x100000) ∧
    (view readWordOf (.lwViHWidth .u32) (State.reset.setViReg .hWidth 320)) = some (some 0x140) ∧
    (view readWordOf (.lwViVIntr .u32) (State.reset.setViReg .vIntr 2)) = some (some 2) ∧
    (view readWordOf (.lwViBurst .s32) (State.reset.setViReg .burst 0x03E52239)) = some (some 0x03E52239) ∧
    (view readWordOf (.lwViVSync .u32) timed) = some (some 0x20C) := by decide

/-- R187 to R193. -/
theorem test_lw_vi_plain_other :
    (view readWordOf (.lwViHSync .u32) (State.reset.setViReg .hSync 0x0C15)) = some (some 0x0C15) ∧
    (view readWordOf (.lwViLeap .u32) (State.reset.setViReg .leap 0x0C150C15)) = some (some 0x0C150C15) ∧
    (view readWordOf (.lwViHStart .u32) (State.reset.setViReg .hStart 0x006C02EC)) = some (some 0x006C02EC) ∧
    (view readWordOf (.lwViVStart .u32) (State.reset.setViReg .vStart 0x002501FF)) = some (some 0x002501FF) ∧
    (view readWordOf (.lwViVBurst .u32) (State.reset.setViReg .vBurst 0x000E0204)) = some (some 0x000E0204) ∧
    (view readWordOf (.lwViXScale .u32) (State.reset.setViReg .xScale 0x01230400)) = some (some 0x01230400) ∧
    (view readWordOf (.lwViYScale .u32) (State.reset.setViReg .yScale 0x0400)) = some (some 0x0400) := by decide

/-- CL5, CL7, CL9 and CL10 of the converter's table, and the word written back. -/
theorem test_lw_vi_current : (view readWordOf (.lwViCurrent .u32) (armed 795675)) = some (some 0x0000000A) ∧
    (view (State.viReg .current) (.lwViCurrent .u32) (armed 795675)) = some 0x0000000A ∧
    (view readWordOf (.lwViCurrent .u32) (armed 1545)) = some (some 0) ∧
    (view readWordOf (.lwViCurrent .u32) (armed 0)) = some (some 0) ∧
    (view readWordOf (.lwViCurrent .s32) (armed 812670)) = some (some 0xFFFFFFFE) := by decide

/-- CL6 and CL11 with the parity at 1. -/
theorem test_lw_vi_current_odd :
    (view readWordOf (.lwViCurrent .u32) { armed 1546 with fieldParity := 1 }) = some (some 0x0000020B) ∧
    (view readWordOf (.lwViCurrent .u32) { armed 812671 with fieldParity := 1 }) = some (some 0xFFFFFFFF) := by decide

/-- AG1, and S2's repeated write. -/
theorem test_sw_vi_v_sync : (view State.cps (.swViVSync 524) State.reset) = some 1545 ∧
    (view State.cpvb (.swViVSync 524) State.reset) = some 811125 ∧
    (view State.schedCountdown (.swViVSync 524) State.reset) = some 811125 ∧
    (view State.events (.swViVSync 524) State.reset) = some [.schedule 811125] ∧
    (view State.events (.swViVSync 524) (armed 810125)) = some [] ∧
    (view State.schedCountdown (.swViVSync 525) (armed 811125)) = some 811125 := by decide

/-- ZF1 and ZF3: the fault is undone, and the gate that declines stores an empty frame. -/
theorem test_sw_vi_v_sync_empty : (view (State.viReg .vSync) (.swViVSync 811363) State.reset) = some 0 ∧
    (view State.outcome (.swViVSync 811363) State.reset) = some (.fault .zeroFramePeriod) ∧
    (view State.faulted (.swViVSync 811363) State.reset) = some true ∧
    (view State.cps (.swViVSync 811363) (State.reset.setViReg .vIntr 0xFFFFFFFF)) = some 0 ∧
    (view State.events (.swViVSync 811363) (State.reset.setViReg .vIntr 0xFFFFFFFF)) =
      some [.diag (.armDeclined 0xFFFFFFFF 811363)] := by decide

/-- VP14 and AG4: declined, and armed. -/
theorem test_sw_vi_v_intr : (view State.events (.swViVIntr 600) State.reset) = some [.diag (.armDeclined 600 0)] ∧
    (view (State.viReg .vIntr) (.swViVIntr 600) State.reset) = some 600 ∧
    (view State.events (.swViVIntr 523) timed) = some [.schedule 811125] ∧
    (view State.schedPending (.swViVIntr 524) timed) = some false := by decide

/-- AG2: with a callback pending the write is a store alone. -/
theorem test_sw_vi_v_intr_pending : (view State.events (.swViVIntr 0xFFFFFFFF) (armed 811125)) = some [] ∧
    (view State.schedCountdown (.swViVIntr 0xFFFFFFFF) (armed 811125)) = some 811125 := by decide

/-- AK1 and AK3: the acknowledge stores nothing and leaves the mask. -/
theorem test_sw_vi_current : (view (State.miReg .intr) (.swViCurrent 7) (lines 0x29 0x01)) = some 0x21 ∧
    (view (State.miReg .intrMask) (.swViCurrent 7) (lines 0x29 0x01)) = some 0x01 ∧
    (view State.cpuLine (.swViCurrent 7) (lines 0x29 0x01)) = some true ∧
    (view (State.viReg .current) (.swViCurrent 0x1234) ((lines 0x08 0x08).setViReg .current 10)) = some 10 ∧
    (view State.events (.swViCurrent 0) (lines 0 0)) = some [.notify] := by decide

/-- VB5 and R220's parity: an early fire. -/
theorem test_vbl : (view State.events .vbl (armed 1)) = some [.schedule 811125, .notify, .present 0 0 0, .yield] ∧
    (view State.schedCountdown .vbl (armed 1)) = some 811125 ∧ (view (State.miReg .intr) .vbl (armed 1)) = some 0x08 ∧
    (view State.fieldParity .vbl ((armed 1).setViReg .control 0x43)) = some 1 ∧
    (view State.fieldParity .vbl { armed 1 with fieldParity := 1 }) = some 0 := by decide

/-- VB7 and ZF7: refused, and undone. -/
theorem test_vbl_fails : (view State.outcome .vbl State.reset) = some (.refused (.noPendingVbl 0x81000000)) ∧
    (view State.outcome .vbl (emptyArmed 811025)) = some (.fault .zeroFramePeriod) ∧
    (view State.schedCountdown .vbl (emptyArmed 811025)) = some 811025 := by decide

/-- RC1 and RC2. -/
theorem test_raise : (view (State.miReg .intr) (.raise .vi) (lines 0 0x08)) = some 0x08 ∧
    (view State.cpuLine (.raise .vi) (lines 0 0x08)) = some true ∧
    (view (State.miReg .intr) (.raise .dp) (lines 0 0)) = some 0x20 ∧
    (view State.cpuLine (.raise .dp) (lines 0 0)) = some false ∧
    (view State.events (.raise .dp) (lines 0 0)) = some [.notify] := by decide

/-- RC4 and RC5. -/
theorem test_clear : (view (State.miReg .intr) (.clear .dp) (lines 0x28 0x3F)) = some 0x08 ∧
    (view State.cpuLine (.clear .dp) (lines 0x28 0x3F)) = some true ∧
    (view (State.miReg .intr) (.clear .pi) (lines 0x3F 0)) = some 0x2F ∧
    (view State.events (.clear .sp) (lines 0 0)) = some [.notify] := by decide

/-- S1 and RS1. -/
theorem test_reset : (view State.clockHz (.reset 0) State.reset) = some 49656530 ∧
    (view State.refreshRateHz (.reset 0) State.reset) = some 50 ∧
    (view State.clockHz (.reset 2) State.reset) = some 48628316 ∧
    (view State.clockHz (.reset 255) (State.construct referenceParams 0)) = some 48681812 ∧
    (view State.refreshRateHz (.reset 255) (State.construct referenceParams 0)) = some 60 := by decide

/-- RS1: the pending callback and the registers are discarded, the sticky flags kept, and nothing emitted. -/
theorem test_reset_clears : (view State.schedPending (.reset 1) (armed 5)) = some false ∧
    (view (State.viReg .vSync) (.reset 1) (armed 5)) = some 0 ∧
    (view (State.miReg .version) (.reset 1) (armed 5)) = some 0x02020102 ∧
    (view State.faulted (.reset 1) { armed 5 with faulted := true }) = some true ∧
    (view State.events (.reset 1) (armed 5)) = some [] := by decide

/-- VB2, VB4 and VB6. -/
theorem test_tick : (view State.schedCountdown (.tick 811124) (armed 811125)) = some 1 ∧
    (view State.events (.tick 2433375) (armed 811125)) = some [.schedule 811125, .notify, .present 0 0 0, .yield] ∧
    (view State.schedCountdown (.tick 2433375) (armed 811125)) = some 811125 ∧
    (view State.schedPending (.tick 5) State.reset) = some false := by decide

/-- ZF8: the tick is undone whole. -/
theorem test_tick_empty : (view State.outcome (.tick 811025) (emptyArmed 811025)) = some (.fault .zeroFramePeriod) ∧
    (view State.schedCountdown (.tick 811025) (emptyArmed 811025)) = some 811025 := by decide

/-- DU1: the stored current line is reported, not recomputed. -/
theorem test_dump : (view State.events .dump ((armed 1).setViReg .current 10)) =
    some [.diag (.dump [0, 0x02020102, 0, 0] [0, 0, 0, 0, 10, 0, 524, 0, 0, 0, 0, 0, 0, 0] 0 0)] := by decide

/-- QU1: the declined arm is still reported. -/
theorem test_quiet : (view State.quiet (.quiet true) State.reset) = some true ∧
    (view State.quiet (.quiet false) { State.reset with quiet := true }) = some false ∧
    (view State.events (.swViVIntr 600) { State.reset with quiet := true }) = some [.diag (.armDeclined 600 0)] := by decide

/-- S8 and RB8: a fault and a refusal of the decoder, through `step`. -/
theorem test_step_rejects : ((after (step (presenting ⟨0x70000038, 1, 0⟩ State.reset))).map State.outcome) =
      some (.fault (.boundsError 0x04400038 4)) ∧
    ((after (step (presenting ⟨0x00000000, 0, 0⟩ State.reset))).map State.outcome) =
      some (.refused (.unsupportedWidth 0)) := by decide

/-- The cause codes of R260 to R262. -/
theorem test_codes : faultCode (.boundsError 0 4) = 1 ∧ faultCode .zeroFramePeriod = 2 ∧
    refusalCode (.reservedTransaction 0) = some 16 ∧ refusalCode (.unsupportedWidth 0) = some 17 ∧
    refusalCode (.badSource 0) = some 18 ∧ refusalCode (.noPendingVbl 0) = some 19 := by decide

/-- R312: the frame periods of the three standards. -/
theorem test_timing : timing 48681812 60 525 = (1542, 811092) ∧ timing 49656530 50 624 = (1589, 993125) ∧
    timing 48628316 60 524 = (1543, 810075) ∧ timing 48681812 60 811362 = (1, 811363) ∧
    timing 48681812 60 811363 = (0, 0) ∧ timing 48681812 60 0xFFFFFFFF = (0, 0) := by decide

/-- R150 and R205: with a longer store the raw write stores and reports, and touches no register; and the next offset is out
of bounds. -/
theorem test_raw_write :
    ((after (step (presenting ⟨0x7000003C, 7, 0⟩ longer))).map State.events) =
      some [.diag (.unexpectedWrite .vi 0x3C 7)] ∧
    ((after (step (presenting ⟨0x7000003C, 7, 0⟩ longer))).map State.viRaw) = some [0, 7] ∧
    ((after (step (presenting ⟨0x50000010, 7, 0⟩ longer))).map (State.store .mi)) = some [0, 0x02020102, 0, 0, 7] ∧
    decode longer.params ⟨0x70000040, 7, 0⟩ = .error (.boundsError 0x04400040 4) := by decide

/-- R144 and R206: the raw read returns the word and emits nothing. -/
theorem test_raw_read :
    ((after (step (presenting ⟨0x14000010, 0, 0⟩ { longer with miRaw := [9] }))).bind readWordOf) = some 9 ∧
    ((after (step (presenting ⟨0x14000010, 0, 0⟩ { longer with miRaw := [9] }))).map State.events) = some [] := by decide

/-- R6: another version value, another SERRATE bit, another base, another P_UNTIL_NONE, and another code for PAL. -/
theorem test_params :
    (State.construct { referenceParams with miVersion := 5 } 1).miReg .version = 5 ∧
    (view State.interlaced (.swViControl 0x20)
      { State.reset with params := { referenceParams with serrateBit := 5 } }) = some true ∧
    decode { referenceParams with viBase := 0x1000 } ⟨0x30000038, 0, 0⟩ = .error (.boundsError 0x1038 4) ∧
    (view readWordOf (.lwViCurrent .u32)
      { timed with params := { referenceParams with untilNone := 795675 } }) = some (some 10) ∧
    (view State.clockHz (.reset 7) { State.reset with params := { referenceParams with tvPal := 7 } }) =
      some 49656530 := by decide

/-! ## Witnesses: for each obligation with hypotheses, values that meet them together, one for each clause -/

/-- A state in which the invariant holds with a timing and nothing pending. -/
theorem witness_inv_timed : timed.Inv where
  storesFit := by decide
  modeBits := by decide
  version := by decide
  pendingBits := by decide
  maskBits := by decide
  standard := ⟨1, by decide, by decide⟩
  retimed := .inl (by decide)
  countdownPos := by decide
  countdownLe := by decide

/-- The invariant holds with a callback pending, for any countdown of the frame. -/
theorem witness_inv (r : Int) (h0 : 0 < r) (h1 : r ≤ 811125) : (armed r).Inv where
  storesFit := witness_inv_timed.storesFit
  modeBits := witness_inv_timed.modeBits
  version := witness_inv_timed.version
  pendingBits := witness_inv_timed.pendingBits
  maskBits := witness_inv_timed.maskBits
  standard := witness_inv_timed.standard
  retimed := witness_inv_timed.retimed
  countdownPos := fun _ => h0
  countdownLe := fun _ => Int.le_trans h1 (by decide : (811125 : Int) ≤ ((48681812 / 60 : Nat) : Int))

/-- With the reference lengths, and a raw access of a longer store. -/
theorem witness_EncodeOfDecodeIsTheTransaction : Transaction.wellFormed longer.params ⟨0x70000038, 5, 0⟩ = true ∧
    Transaction.wellFormed referenceParams ⟨0x70000038, 5, 0⟩ = false ∧ Transaction.wellFormed referenceParams ⟨0x5000000C, 0x80, 0⟩ = true ∧
    Transaction.wellFormed referenceParams ⟨0x85000000, 0, 15450⟩ = true ∧ Transaction.wellFormed referenceParams ⟨0x37000034, 0, 0⟩ = false ∧
    Transaction.wellFormed referenceParams ⟨0x34000034, 0, 0⟩ = true := by decide

theorem witness_DecoderAcceptsExactlyTheWellFormedWords :
    decode referenceParams ⟨0x82000005, 0, 0⟩ = .ok (.instr (.raise .dp)) ∧ Transaction.wordWellFormed referenceParams ⟨0x82000005, 0, 0⟩ = true ∧
    Transaction.wordWellFormed referenceParams ⟨0x82000006, 0, 0⟩ = false ∧ referenceParams.miRawWords = 0 ∧
    referenceParams.viRawWords = 0 := by decide

/-- A word for each failure, and two words in which two checks fail together. -/
theorem witness_DecoderReportsTheFirstFailureInOrder :
    decode referenceParams ⟨0x10000010, 0, 0⟩ = .error (.boundsError 0x04300010 4) ∧ boundsOk referenceParams ⟨0x10000010, 0, 0⟩ = false ∧
    decode referenceParams ⟨0x1000000C, 0, 0⟩ = .ok (.instr (.lwMiIntrMask .u32)) ∧
    decode referenceParams ⟨0x08001000, 0, 0⟩ = .error .unsupportedWidth ∧ boundsOk referenceParams ⟨0x08001000, 0, 0⟩ = false ∧
    decode referenceParams ⟨0x09001000, 0, 0⟩ = .error .reservedTransaction ∧ widthOk ⟨0x09001000, 0, 0⟩ = false ∧
    decode referenceParams ⟨0x8200000E, 0, 0⟩ = .error .reservedTransaction ∧ sourceOk ⟨0x8200000E, 0, 0⟩ = false ∧
    decode referenceParams ⟨0x82000007, 0, 0⟩ = .error .badSource := by decide

theorem witness_OpcodeRowsAreDisjoint : ∃ r ∈ opcodeRows, r.selects 0x14000004 = true ∧ r.mnemonic = "LW_MI.VERSION" := by
  decide

/-- The last register's offset, the first and the last raw offset, and the states that step them. -/
theorem witness_DecodedTransactionIsARowOrARawAccess :
    (decode referenceParams ⟨0x70000034, 5, 0⟩ = .ok (.instr (.swViYScale 5)) ∧
      ∃ r ∈ opcodeRows, r.selects 0x70000034 = true) ∧
    (decode longer.params ⟨0x14000010, 0, 0⟩ = .ok (.rawRead .mi 16 .s32) ∧
      decode longer.params ⟨0x30000038, 0, 0⟩ = .ok (.rawRead .vi 56 .u32) ∧
      decode longer.params ⟨0x7000003C, 7, 0⟩ = .ok (.rawWrite .vi 60 7)) ∧
    ((presenting ⟨0x7000003C, 7, 0⟩ longer).input = [⟨0x7000003C, 7, 0⟩] ∧
      (presenting ⟨0x7000003C, 7, 0⟩ longer).storesFit = true ∧ Block.mi ≠ Block.vi) := by decide

theorem witness_StepRunsTheDecodedInstruction :
    (presenting ⟨0x82000003, 0, 0⟩ State.reset).input = [⟨0x82000003, 0, 0⟩] ∧
    decode referenceParams ⟨0x82000003, 0, 0⟩ = .ok (.instr (.raise .vi)) := by decide

theorem witness_RejectedTransactionTakesItsReason :
    (presenting ⟨0xC0000000, 0, 0⟩ State.reset).input = [⟨0xC0000000, 0, 0⟩] ∧
    decode referenceParams ⟨0xC0000000, 0, 0⟩ = .error .reservedTransaction ∧ decode referenceParams ⟨0x18000000, 0, 0⟩ = .error .unsupportedWidth ∧
    decode referenceParams ⟨0x83000006, 0, 0⟩ = .error .badSource ∧ decode referenceParams ⟨0x30000038, 0, 0⟩ = .error (.boundsError 0x04400038 4) := by decide

theorem witness_IdleStepChangesNothing : (armed 5).input = [] := by decide

theorem witness_ExecutionFailsOnlyAsTheRulesSay :
    (∃ t, exec (.swViVSync 811363) State.reset = .next t ∧ t.outcome = .fault .zeroFramePeriod) ∧
    (∃ t, exec (.swViVIntr 0) empty = .next t ∧ t.outcome = .fault .zeroFramePeriod) ∧
    (∃ t, exec .vbl (emptyArmed 1) = .next t ∧ t.outcome = .fault .zeroFramePeriod) ∧
    (∃ t, exec (.tick 1) (emptyArmed 1) = .next t ∧ t.outcome = .fault .zeroFramePeriod) ∧
    (∃ t, exec .vbl timed = .next t ∧ t.outcome = .refused (.noPendingVbl 0x81000000)) :=
  ⟨⟨_, rfl, by decide⟩, ⟨_, rfl, by decide⟩, ⟨_, rfl, by decide⟩, ⟨_, rfl, by decide⟩, ⟨_, rfl, by decide⟩⟩

theorem witness_FailureEndsOnlyItsOwnTransaction :
    (∃ u, (presenting ⟨0x30000038, 0, 0⟩ State.reset).input = [⟨0x30000038, 0, 0⟩] ∧
      step (presenting ⟨0x30000038, 0, 0⟩ State.reset) = .next u ∧ u.outcome = .fault (.boundsError 0x04400038 4)) ∧
    (∃ u, step (presenting ⟨0x82000007, 0, 0⟩ State.reset) = .next u ∧ u.outcome = .refused (.badSource 0x82000007)) ∧
    (∃ t, exec (.raise .dp) State.reset = .next t) :=
  ⟨⟨_, rfl, rfl, by decide⟩, ⟨_, rfl, by decide⟩, ⟨_, rfl⟩⟩

theorem witness_AccessOutOfBoundsRaisesBoundsError :
    isBus 0x10000010 = true ∧ busZeroOk ⟨0x10000010, 0, 0⟩ = true ∧ writeFormOk ⟨0x10000010, 0, 0⟩ = true ∧
    widthOk ⟨0x10000010, 0, 0⟩ = true ∧ inBounds State.reset.params (fieldU 0x10000010) (fieldO 0x10000010).toNat 4 = false ∧
    isBus 0x7000000C = true ∧ busZeroOk ⟨0x7000000C, 0, 0⟩ = true ∧ writeFormOk ⟨0x7000000C, 0, 0⟩ = true ∧
    widthOk ⟨0x7000000C, 0, 0⟩ = true ∧ inBounds State.reset.params (fieldU 0x7000000C) (fieldO 0x7000000C).toNat 4 = true ∧
    (presenting ⟨0x7000000C, 1, 0⟩ empty).input = [⟨0x7000000C, 1, 0⟩] ∧
    (∃ u, step (presenting ⟨0x7000000C, 1, 0⟩ empty) = .next u) :=
  ⟨by decide, by decide, by decide, by decide, by decide, by decide, by decide, by decide, by decide, by decide, rfl,
    ⟨_, rfl⟩⟩

/-- The last offset in bounds and the first out of bounds of each block, a negative and an unaligned one; a store of the
value held, and another offset. -/
theorem witness_RegisterBlockReadsAndWritesOneWord :
    inBounds referenceParams .mi 12 4 = true ∧ inBounds referenceParams .mi 16 4 = false ∧ inBounds referenceParams .mi 2 4 = false ∧ inBounds referenceParams .mi (-4) 4 = false ∧
    inBounds referenceParams .vi 52 4 = true ∧ inBounds referenceParams .vi 56 4 = false ∧ Block.mi ≠ Block.vi ∧ (12 : Int) ≠ 8 ∧
    rbReadWord .mi 4 State.reset = .ok 0x02020102 ∧ State.reset.storesFit = true ∧
    inBounds longer.params .vi 60 4 = true ∧ inBounds longer.params .vi 64 4 = false ∧ longer.storesFit = true := by decide

theorem witness_RegisterBlockSetsAndClearsBits :
    inBounds referenceParams .mi 16 4 = false ∧ inBounds referenceParams .mi 8 4 = true ∧ rbReadWord .mi 8 (lines 0x09 0) = .ok 0x09 ∧
    (lines 0x09 0).storesFit = true ∧ inBounds longer.params .mi 16 4 = true ∧ longer.storesFit = true ∧
    (0x09 ||| 0x08 : Word) = 0x09 ∧ (0x09 &&& 0x10 : Word) = 0 ∧ Block.vi ≠ Block.mi ∧ (4 : Int) ≠ 8 := by decide

theorem witness_MiModeAndVersionReads : (armed 1).Inv := witness_inv 1 (by decide) (by decide)

theorem witness_MiVectorReads : (armed 811125).Inv := witness_inv 811125 (by decide) (by decide)

/-- Both values of D[11], and bits beside the three flags. -/
theorem witness_ModeWriteClearWins : (0x0180 : Word).getLsbD 11 = false ∧ (0x0800 : Word).getLsbD 11 = true ∧
    ((6 : Nat) ≠ 7 ∧ (6 : Nat) ≠ 8 ∧ (6 : Nat) ≠ 9) ∧ ((10 : Nat) ≠ 7 ∧ (10 : Nat) ≠ 8 ∧ (10 : Nat) ≠ 9) := by decide

theorem witness_MaskWriteSetWins : (5 : Nat) < 6 ∧ (6 : Nat) ≤ 6 ∧ MiReg.intr ≠ MiReg.intrMask := by decide

theorem witness_RaiseSetsThePendingBitAndNotifies : (31 : Nat) < 32 ∧ MiReg.intrMask ≠ MiReg.intr ∧
    ∃ t, exec .vbl (armed 5) = .next t ∧ t.outcome = .ok none :=
  ⟨by decide, by decide, _, rfl, by decide⟩

theorem witness_ClearClearsThePendingBitAndNotifies : MiReg.mode ≠ MiReg.intr := by decide

theorem witness_NotifyIsEmittedExactlyByTheseOperations :
    (∃ t, exec (.swMiIntrMask 0x2) (lines 0x01 0) = .next t ∧ Event.notify ∈ t.events) ∧
    (∃ t, exec (.tick 1) (armed 1) = .next t ∧ Event.notify ∈ t.events) ∧
    (∃ t, exec (.swMiMode 0x0800) State.reset = .next t ∧ Event.notify ∈ t.events) ∧
    (∃ t, exec (.tick 0) (armed 1) = .next t ∧ Event.notify ∉ t.events) :=
  ⟨⟨_, rfl, by decide⟩, ⟨_, rfl, by decide⟩, ⟨_, rfl, by decide⟩, ⟨_, rfl, by decide⟩⟩

theorem witness_NotifyCopiesTheLineToTheCpu :
    (∃ t, exec (.raise .vi) (lines 0 0x08) = .next t ∧ Event.notify ∈ t.events ∧ t.line = true) ∧
    (∃ t, exec (.swMiIntrMask 0x40) { lines 0x08 0x08 with cpuLine := true } = .next t ∧ Event.notify ∉ t.events ∧
      t.line = false ∧ ∀ tv, Instr.swMiIntrMask 0x40 ≠ .reset tv) ∧
    (∃ t, exec (.reset 1) { lines 0x08 0x08 with cpuLine := true } = .next t) :=
  ⟨⟨_, rfl, by decide, by decide⟩, ⟨_, rfl, by decide, by decide, fun _ h => by cases h⟩, ⟨_, rfl⟩⟩

theorem witness_MaskClearLeavesTheCpuFlagStale :
    ∃ t, exec (.swMiIntrMask 0x40) { lines 0x08 0x08 with cpuLine := true } = .next t ∧
      t.miReg .intrMask &&& (lines 0x08 0x08).miReg .intr = 0 ∧ t.cpuLine = true :=
  ⟨_, rfl, by decide, by decide⟩

/-- Each word is changed by a transaction of its own. -/
theorem witness_MiRegistersAreWrittenOnlyByTheirTransactions :
    (∃ t, exec (.swMiMode 0x100) State.reset = .next t ∧ t.miReg .mode ≠ State.reset.miReg .mode ∧
      ∀ tv, Instr.swMiMode 0x100 ≠ .reset tv) ∧
    (∃ t, exec (.swMiIntrMask 0x80) State.reset = .next t ∧ t.miReg .intrMask ≠ State.reset.miReg .intrMask) ∧
    (∃ t, exec (.tick 1) (armed 1) = .next t ∧ t.miReg .intr ≠ (armed 1).miReg .intr) :=
  ⟨⟨_, rfl, by decide, fun _ h => by cases h⟩, ⟨_, rfl, by decide⟩, ⟨_, rfl, by decide⟩⟩

theorem witness_MiTransactionsLeaveTheVi :
    ∃ t, Instr.clear .ai ∈ [Instr.lwMiMode .u32, .lwMiVersion .u32, .lwMiIntr .u32, .lwMiIntrMask .u32, .swMiMode 0, .swMiVersion 0,
      .swMiIntr 0, .swMiIntrMask 0, .raise .ai, .clear .ai] ∧ exec (.clear .ai) (armed 5) = .next t :=
  ⟨_, by decide, rfl⟩

/-- Writes of the first registers that complete: a plain one, and V_INTR and V_SYNC where they arm. -/
theorem witness_PlainViReadsOfTheFirstRegisters :
    (∃ t, exec (.swViControl 0x3243) State.reset = .next t ∧ t.outcome = .ok none) ∧
    (∃ t, exec (.swViDramAddr 0x100000) State.reset = .next t ∧ t.outcome = .ok none) ∧
    (∃ t, exec (.swViHWidth 320) State.reset = .next t ∧ t.outcome = .ok none) ∧
    (∃ t, exec (.swViVIntr 2) timed = .next t ∧ t.outcome = .ok none) ∧
    (∃ t, exec (.swViBurst 1) State.reset = .next t ∧ t.outcome = .ok none) ∧
    (∃ t, exec (.swViVSync 524) State.reset = .next t ∧ t.outcome = .ok none) :=
  ⟨⟨_, rfl, by decide⟩, ⟨_, rfl, by decide⟩, ⟨_, rfl, by decide⟩, ⟨_, rfl, by decide⟩, ⟨_, rfl, by decide⟩,
    ⟨_, rfl, by decide⟩⟩

theorem witness_PlainViReadsOfTheOtherRegisters :
    (∃ t, exec (.swViHSync 1) State.reset = .next t ∧ t.outcome = .ok none) ∧
    (∃ t, exec (.swViLeap 1) State.reset = .next t ∧ t.outcome = .ok none) ∧
    (∃ t, exec (.swViHStart 1) State.reset = .next t ∧ t.outcome = .ok none) ∧
    (∃ t, exec (.swViVStart 1) State.reset = .next t ∧ t.outcome = .ok none) ∧
    (∃ t, exec (.swViVBurst 1) State.reset = .next t ∧ t.outcome = .ok none) ∧
    (∃ t, exec (.swViXScale 1) State.reset = .next t ∧ t.outcome = .ok none) ∧
    (∃ t, exec (.swViYScale 1) State.reset = .next t ∧ t.outcome = .ok none) :=
  ⟨⟨_, rfl, by decide⟩, ⟨_, rfl, by decide⟩, ⟨_, rfl, by decide⟩, ⟨_, rfl, by decide⟩, ⟨_, rfl, by decide⟩,
    ⟨_, rfl, by decide⟩, ⟨_, rfl, by decide⟩⟩

theorem witness_PlainViWritesOfTheFirstRegisters :
    (∃ t u, exec (.swViControl 0x43) (armed 5) = .next t ∧ exec .vbl t = .next u ∧ u.outcome = .ok none ∧
      t.interlaced = true ∧ t.is32bpp = true) ∧
    (∃ v u, exec (.swViDramAddr 0x100000) (armed 5) = .next v ∧ exec .vbl v = .next u ∧ u.outcome = .ok none) :=
  ⟨⟨_, _, rfl, rfl, by decide, by decide, by decide⟩, ⟨_, _, rfl, rfl, by decide⟩⟩

theorem witness_PlainViWritesOfTheOtherRegisters :
    (∃ t, exec (.swViXScale 0x200) State.reset = .next t ∧ t.xScale = mkRat 1 2) ∧
    (∃ t, exec (.swViYScale 0xFFF) State.reset = .next t ∧ t.yScale = mkRat 4095 1024) :=
  ⟨⟨_, rfl, by decide⟩, ⟨_, rfl, by decide⟩⟩

/-- The first and the last register, their first and last byte, and the bytes just outside. -/
theorem witness_PlainViWriteChangesOnlyItsFourBytes :
    (∃ t, exec (viWrite 0x01020304 .control) State.reset = .next t ∧ t.byteAt 0x04400000 = some 0x01 ∧
      t.byteAt 0x04400003 = some 0x04 ∧ t.byteAt 0x04400004 = some 0 ∧ t.byteAt 0x0430000F = some 0) ∧
    (∃ t, exec (viWrite 0x01020304 .yScale) State.reset = .next t ∧ t.byteAt 0x04400034 = some 0x01 ∧
      t.byteAt 0x04400037 = some 0x04 ∧ t.byteAt 0x04400038 = none ∧ t.byteAt 0x04400033 = some 0) ∧
    ViReg.yScale ≠ .current ∧ ViReg.yScale ≠ .vSync ∧ ViReg.yScale ≠ .vIntr ∧ windowsApart State.reset.params = true ∧
    windowsApart { referenceParams with viBase := 0x04300010 } = true ∧
    windowsApart { referenceParams with viBase := 0x0430000F } = false :=
  ⟨⟨_, rfl, by decide, by decide, by decide, by decide⟩, ⟨_, rfl, by decide, by decide, by decide, by decide⟩, by decide,
    by decide, by decide, by decide, by decide, by decide⟩

theorem witness_ViRegistersAreWrittenOnlyByTheirTransactions :
    (∃ t, exec (.swViVSync 525) timed = .next t ∧ t.viReg .vSync ≠ timed.viReg .vSync) ∧
    (∃ t, exec (.lwViCurrent .u32) (armed 795675) = .next t ∧ t.viReg .current ≠ (armed 795675).viReg .current) ∧
    (∃ t, exec (.reset 1) timed = .next t ∧ t.viReg .vSync ≠ timed.viReg .vSync) :=
  ⟨⟨_, rfl, by decide⟩, ⟨_, rfl, by decide⟩, ⟨_, rfl, by decide⟩⟩

theorem witness_RetimingArithmetic : 0 < 60 ∧ timing 48681812 60 0 = (811363, 811363) ∧
    timing 48681812 60 811362 = (1, 811363) ∧ timing 48681812 60 811363 = (0, 0) := by decide

/-- The stored value; the smallest empty frame; a pending callback; armed with the largest frame count; declined at L = D. -/
theorem witness_RetimeWriteRecomputesAndArms :
    (1545 = timed.clockHz / (timed.refreshRateHz * ((524 : Word).toNat + 1)) ∧ 811125 = ((524 : Word).toNat + 1) * 1545 ∧
      (524 : Word) = timed.viReg .vSync) ∧
    (0 = State.reset.clockHz / (State.reset.refreshRateHz * ((811363 : Word).toNat + 1)) ∧
      (811363 : Word) ≠ State.reset.viReg .vSync ∧ State.reset.schedPending = false ∧ State.reset.viReg .vIntr < 811363) ∧
    ((525 : Word) ≠ (armed 5).viReg .vSync ∧ (armed 5).schedPending = true ∧
      1542 = (armed 5).clockHz / ((armed 5).refreshRateHz * ((525 : Word).toNat + 1))) ∧
    (1 = State.reset.clockHz / (State.reset.refreshRateHz * ((811362 : Word).toNat + 1)) ∧
      (811362 : Word) ≠ State.reset.viReg .vSync ∧ State.reset.viReg .vIntr < 811362) ∧
    ((811363 : Word) ≠ (State.reset.setViReg .vIntr 811363).viReg .vSync ∧
      (State.reset.setViReg .vIntr 811363).schedPending = false ∧
      ¬ (State.reset.setViReg .vIntr 811363).viReg .vIntr < (811363 : Word)) := by decide

/-- The empty frame; a pending callback; armed at the line before V; declined at V. -/
theorem witness_InterruptLineWriteArms :
    (empty.schedPending = false ∧ (0 : Word) < empty.viReg .vSync ∧ empty.cpvb = 0) ∧
    ((armed 5).schedPending = true) ∧
    (timed.schedPending = false ∧ (523 : Word) < timed.viReg .vSync ∧ timed.cpvb ≠ 0) ∧
    ¬ (524 : Word) < timed.viReg .vSync := by decide

theorem witness_AcknowledgeClearsViPending : MiReg.intrMask ≠ MiReg.intr := by decide

/-- With a pending callback, with none, and with a line that wraps. -/
theorem witness_CurrentLineReadRecomputes :
    ((armed 795675).cps ≠ 0 ∧ Int.fdiv (((armed 795675).cpvb : Int) - 795675) ((armed 795675).cps : Int) = 10 ∧
      (armed 795675).schedPending = true ∧ (1 : Nat) ≤ 1) ∧
    (timed.cps ≠ 0 ∧ timed.schedPending = false ∧
      Int.fdiv ((timed.cpvb : Int) - timed.params.untilNone) (timed.cps : Int) = 525 ∧ ((timed.viReg .vSync).toNat : Int) ≤ 525) ∧
    State.reset.cps = 0 := by decide

theorem witness_CurrentLineStaysWithinTheFrame :
    ((armed 1).Inv ∧ (armed 1).cps ≠ 0 ∧ (armed 1).viReg .vSync ≠ 0 ∧ (armed 1).schedPending = true ∧
      (armed 1).schedCountdown ≤ (armed 1).cpvb ∧ ∃ t, exec (.lwViCurrent .u32) (armed 1) = .next t) ∧
    ((armed 811125).Inv ∧ (armed 811125).schedCountdown ≤ (armed 811125).cpvb) :=
  ⟨⟨witness_inv 1 (by decide) (by decide), by decide, by decide, by decide, by decide, ⟨_, rfl⟩⟩,
    witness_inv 811125 (by decide) (by decide), by decide⟩

theorem witness_CurrentLineBeforeArmingIsTheParity :
    timed.Inv ∧ timed.params.untilNone = 0 ∧ timed.cps ≠ 0 ∧ timed.schedPending = false ∧
      ∃ t, exec (.lwViCurrent .s32) timed = .next t :=
  ⟨witness_inv_timed, by decide, by decide, by decide, ⟨_, rfl⟩⟩

theorem witness_ClockAndRefreshAreSetOnlyByReset :
    (∃ t, exec (.swViVSync 524) State.reset = .next t ∧ ∀ tv, Instr.swViVSync 524 ≠ .reset tv) ∧
    (∃ t, exec (.reset 0) State.reset = .next t ∧ t.clockHz ≠ State.reset.clockHz ∧ t.refreshRateHz = 50) ∧
    State.reset.params = referenceParams :=
  ⟨⟨_, rfl, fun _ h => by cases h⟩, ⟨_, rfl, by decide, by decide⟩, rfl⟩

theorem witness_TimingIsWrittenOnlyByRetimeAndReset :
    (∃ t, exec (.swViVSync 525) timed = .next t ∧ (t.cps ≠ timed.cps ∨ t.cpvb ≠ timed.cpvb)) ∧
    (∃ t, exec (.reset 1) timed = .next t ∧ (t.cps ≠ timed.cps ∨ t.cpvb ≠ timed.cpvb)) :=
  ⟨⟨_, rfl, by decide⟩, ⟨_, rfl, by decide⟩⟩

/-- The parity changed by VBL, by the tick that just reaches the countdown, and by RESET; both settings of SERRATE. -/
theorem witness_ParityIsWrittenOnlyByTheVblHandlerAndReset :
    (∃ t, exec .vbl ((armed 5).setViReg .control 0x40) = .next t ∧ t.fieldParity ≠ (armed 5).fieldParity ∧
      t.outcome = .ok none) ∧
    (∃ t, exec (.tick 5) { armed 5 with fieldParity := 1 } = .next t ∧ t.fieldParity ≠ 1 ∧ t.outcome = .ok none ∧
      (armed 5).schedPending = true ∧ (armed 5).schedCountdown - ((5 : Nat) : Int) ≤ 0) ∧
    (∃ t, exec (.reset 1) { armed 5 with fieldParity := 1 } = .next t ∧ t.fieldParity ≠ 1) :=
  ⟨⟨_, rfl, by decide, by decide⟩, ⟨_, rfl, by decide, by decide, by decide, by decide⟩, ⟨_, rfl, by decide⟩⟩

theorem witness_TelevisionStandards : (0 : BitVec 8) = referenceParams.tvPal ∧ (2 : BitVec 8) ≠ referenceParams.tvPal ∧
    (2 : BitVec 8) = referenceParams.tvMpal ∧ (3 : BitVec 8) ≠ referenceParams.tvPal ∧
    (3 : BitVec 8) ≠ referenceParams.tvMpal := by decide

theorem witness_VerticalBlankHandler :
    timed.schedPending = false ∧ ((emptyArmed 1).schedPending = true ∧ (emptyArmed 1).cpvb = 0) ∧
    ((armed 1).schedPending = true ∧ (armed 1).cpvb ≠ 0) := by decide

/-- The largest tick that waits and the smallest that fires, with a frame and with an empty one. -/
theorem witness_TickAdvancesTheCountdown :
    timed.schedPending = false ∧ ((armed 5).schedPending = true ∧ ((4 : Nat) : Int) < (armed 5).schedCountdown) ∧
    ((armed 5).schedCountdown ≤ ((5 : Nat) : Int) ∧ (armed 5).cpvb ≠ 0) ∧
    ((emptyArmed 5).schedPending = true ∧ (emptyArmed 5).schedCountdown ≤ ((5 : Nat) : Int) ∧ (emptyArmed 5).cpvb = 0) := by
  decide

theorem witness_TicksThatDoNotFireAddUp :
    (armed 5).schedPending = true ∧ ((3 + 1 : Nat) : Int) < (armed 5).schedCountdown := by decide

theorem witness_QuietSetsAFlagNoRuleReads :
    ∃ t, exec (.swViVIntr 600) State.reset = .next t ∧ (∀ p, Instr.swViVIntr 600 ≠ .quiet p) ∧
      ∀ tv, Instr.swViVIntr 600 ≠ .reset tv :=
  ⟨_, rfl, (fun _ h => by cases h), (fun _ h => by cases h)⟩

theorem witness_TransactionsThatStoreNothingLeaveEveryByte :
    (∃ t, exec (miRead .u32 .intr) (armed 5) = .next t) ∧
    (∃ t, ViReg.vSync ≠ .current ∧ exec (viRead .s32 .vSync) (armed 5) = .next t) ∧
    (∃ t, exec (.swMiVersion 0) (armed 5) = .next t) ∧ (∃ t, exec (.swMiIntr 0xFF) (armed 5) = .next t) ∧
    (∃ t, exec .dump (armed 5) = .next t) ∧ (∃ t, exec (.quiet true) (armed 5) = .next t) :=
  ⟨⟨_, rfl⟩, ⟨_, by decide, rfl⟩, ⟨_, rfl⟩, ⟨_, rfl⟩, ⟨_, rfl⟩, ⟨_, rfl⟩⟩

theorem witness_EveryStepKeepsTheInvariant : (armed 5).Inv ∧ ∃ t, step (armed 5) = .next t :=
  ⟨witness_inv 5 (by decide) (by decide), ⟨_, rfl⟩⟩

theorem witness_ArmedCallbackStaysArmedUntilReset :
    (presenting ⟨0x81000000, 0, 0⟩ (armed 5)).schedPending = true ∧
    (∀ x ∈ (presenting ⟨0x81000000, 0, 0⟩ (armed 5)).input, ∀ tv,
      decode (presenting ⟨0x81000000, 0, 0⟩ (armed 5)).params x ≠ .ok (.instr (.reset tv))) ∧
    ∃ t, Host.Core.run core 1 (presenting ⟨0x81000000, 0, 0⟩ (armed 5)) = .next t := by
  refine ⟨by decide, ?_, ⟨_, rfl⟩⟩
  intro x hx tv h
  have hx : x = ⟨0x81000000, 0, 0⟩ := by simpa [presenting] using hx
  subst hx
  have hd : decode (presenting ⟨0x81000000, 0, 0⟩ (armed 5)).params ⟨0x81000000, 0, 0⟩ = .ok (.instr .vbl) := by decide
  rw [hd] at h
  cases h

theorem witness_StickyFlagsAreNeverCleared :
    { State.reset with faulted := true, refused := true }.faulted = true ∧
    { State.reset with faulted := true, refused := true }.refused = true ∧
    ∃ t, Host.Core.run core 1 (presenting ⟨0x84000001, 0, 0⟩ { State.reset with faulted := true, refused := true }) =
      .next t :=
  ⟨rfl, rfl, ⟨_, rfl⟩⟩

end Sys2Proof.Tests
end

section
/-! The clock and the refresh rate (R35, R291): which instructions leave them, and what RESET takes them from. -/

namespace Sys2Proof.Proofs

open Machine

/-- The arm decision writes nothing but the scheduler's slot and the events (R212). -/
theorem arm_frame {s t : State} (h : arm s = .ok t) :
    t = { s with schedPending := t.schedPending, schedCountdown := t.schedCountdown, events := t.events } := by
  obtain ⟨-, rfl⟩ | ⟨-, -, -, rfl⟩ | ⟨-, -, rfl⟩ := arm_cases s t h
  · rfl
  · rfl
  · rfl

theorem arm_clockHz {s t : State} (h : arm s = .ok t) : t.clockHz = s.clockHz := by
  rw [arm_frame h]

theorem arm_refreshRateHz {s t : State} (h : arm s = .ok t) : t.refreshRateHz = s.refreshRateHz := by
  rw [arm_frame h]

@[simp] theorem afterVbl_clockHz (s : State) : s.afterVbl.clockHz = s.clockHz := rfl

@[simp] theorem afterVbl_refreshRateHz (s : State) : s.afterVbl.refreshRateHz = s.refreshRateHz := rfl

/-- Every shape of effect but RESET's leaves the clock and the refresh rate. The two register writes that arm go through
the arm decision's frame; every other shape is a chain of updates of other fields. -/
theorem execCase_keeps_clock {i : Instr} {s t : State} (h : ExecCase i s t) (hi : ∀ tv, i ≠ .reset tv) :
    t.clockHz = s.clockHz ∧ t.refreshRateHz = s.refreshRateHz := by
  cases h
  case reset tv hreset _ => exact absurd hreset (hi tv)
  case vIntr d u _ hu ht => simp [ht, arm_clockHz hu, arm_refreshRateHz hu]
  case vSync d u _ _ hu ht => simp [ht, arm_clockHz hu, arm_refreshRateHz hu]
  all_goals
    subst t
    simp

theorem exec_reset (tv : BitVec 8) (s : State) : exec (.reset tv) s = .next ((s.resetTo tv).completed none) := rfl

/-- The refresh rates of R291 at the reference parameters. -/
theorem refreshOf_reference (tv : BitVec 8) :
    refreshOf referenceParams tv = if tv = referenceParams.tvPal then 50 else 60 := rfl

/-- Settles O45: the first clause by the shapes of effect of an instruction, the second by RESET's own result. -/
theorem clockAndRefreshAreSetOnlyByReset : Obligations.ClockAndRefreshAreSetOnlyByReset := by
  refine ⟨fun i s t h hi => execCase_keeps_clock (exec_case i s t h) hi, fun tv s t h => ?_⟩
  rw [exec_reset] at h
  cases h
  exact ⟨rfl, rfl, fun hp => by simp [hp, refreshOf_reference]⟩

end Sys2Proof.Proofs
end

section
/-! The register block's word operations (R120 to R124): one word of a store replaced, and what every read then finds. -/

namespace Sys2Proof.Proofs

open Machine

variable {b c : Block} {o p : Int} {s : State}

/-! ### Out of bounds -/

theorem rbCheck_err {q : Params} (h : inBounds q b o 4 = false) :
    rbCheck q b o = .error (.fault (.boundsError (busAddress q b o) 4)) := by
  simp [rbCheck_eq, h]

theorem rbSetBits_err (m : Word) (h : inBounds s.params b o 4 = false) :
    rbSetBits b o m s = .error (.fault (.boundsError (busAddress s.params b o) 4)) := by
  simp [rbSetBits, rbCheck_err h]

theorem rbClearBits_err (m : Word) (h : inBounds s.params b o 4 = false) :
    rbClearBits b o m s = .error (.fault (.boundsError (busAddress s.params b o) 4)) := by
  simp [rbClearBits, rbCheck_err h]

/-! ### In bounds: the place of an offset in its store -/

/-- The word index of an offset in bounds lies in the store (R62, R67). -/
theorem wordIndex_lt_length (h : inBounds s.params b o 4 = true) (hfit : s.storesFit = true) :
    o.toNat / 4 < (s.store b).length := by
  have hlen := s.store_length b hfit
  simp only [inBounds, Bool.and_eq_true, decide_eq_true_eq] at h
  omega

/-- Two offsets in bounds are aligned and not negative, so they share a word only when equal. -/
theorem wordIndex_injective {q : Params} (ho : inBounds q b o 4 = true) (hp : inBounds q c p 4 = true)
    (h : o.toNat / 4 = p.toNat / 4) : o = p := by
  simp only [inBounds, Bool.and_eq_true, decide_eq_true_eq] at ho hp
  omega

theorem store_getElem?_eq_word {i : Nat} (h : i < (s.store b).length) : (s.store b)[i]? = some (s.word b i) := by
  simp [State.word_store, h]

/-! ### A word replaced -/

@[simp] theorem setWord_params (i : Nat) (v : Word) : (s.setWord b i v).params = s.params := by cases b <;> rfl

/-- Replacing a word changes no field outside the two stores. -/
theorem setWord_frame (b : Block) (i : Nat) (v : Word) (s : State) :
    s.setWord b i v = { s with
      mi := (s.setWord b i v).mi, vi := (s.setWord b i v).vi
      miRaw := (s.setWord b i v).miRaw, viRaw := (s.setWord b i v).viRaw } := by
  cases b <;> rfl

/-- Putting back the word a store holds, of a store as its two parts: neither part changes. -/
theorem store_set_self {n : Nat} (m : Vector Word n) (raw : List Word) (i : Nat) :
    m.setIfInBounds i (m[i]?.getD (raw[i - n]?.getD 0)) = m ∧
      (if i < n then raw else raw.set (i - n) (m[i]?.getD (raw[i - n]?.getD 0))) = raw := by
  by_cases hi : i < n
  · have hreg : m.setIfInBounds i m[i] = m := by
      apply Vector.ext
      intro j hj
      by_cases hij : i = j <;> simp [hij]
    simp [hi, hreg]
  · refine ⟨Vector.setIfInBounds_eq_of_size_le (Nat.not_lt.mp hi), ?_⟩
    by_cases hr : i - n < raw.length
    · simp [hi, hr]
    · simp [hi, List.set_eq_of_length_le (Nat.not_lt.mp hr)]

/-- Writing the value already stored leaves the state unchanged (R122). -/
theorem setWord_word_self (b : Block) (i : Nat) (s : State) : s.setWord b i (s.word b i) = s := by
  cases b <;> simp only [State.setWord, State.word, Config.miWords, Config.viWords, store_set_self]

theorem rbReadWord_setWord_same (v : Word) (h : inBounds s.params b o 4 = true) (hfit : s.storesFit = true) :
    rbReadWord b o (s.setWord b (o.toNat / 4) v) = .ok v := by
  rw [rbReadWord_ok _ _ _ (by simpa using h), State.setWord_word _ _ _ _ _ (wordIndex_lt_length h hfit), if_pos rfl]

/-- A read elsewhere finds what it found before: it fails alike, reads the other store, or another word of this one. -/
theorem rbReadWord_setWord_other (v : Word) (h : inBounds s.params b o 4 = true) (hfit : s.storesFit = true)
    (hne : c ≠ b ∨ p ≠ o) : rbReadWord c p (s.setWord b (o.toNat / 4) v) = rbReadWord c p s := by
  by_cases hp : inBounds s.params c p 4 = true
  · rw [rbReadWord_ok c p s hp, rbReadWord_ok c p _ (by simpa using hp)]
    by_cases hc : c = b
    · subst hc
      have hidx : o.toNat / 4 ≠ p.toNat / 4 := fun e =>
        hne.elim (· rfl) (· (wordIndex_injective h hp e).symm)
      rw [State.setWord_word _ _ _ _ _ (wordIndex_lt_length h hfit), if_neg hidx]
    · rw [State.setWord_word_other _ _ _ _ _ _ (Ne.symm hc)]
  · have hp : inBounds s.params c p 4 = false := Bool.eq_false_of_not_eq_true hp
    rw [rbReadWord_err c p s hp, rbReadWord_err c p _ (by simpa using hp), setWord_params]

/-- Clearing bits already clear leaves the word unchanged (R124). -/
theorem and_not_eq_self_of_and_eq_zero {n : Nat} {w m : BitVec n} (h : w &&& m = 0) : w &&& ~~~m = w :=
  calc
    w &&& ~~~m = (w &&& m) ||| (w &&& ~~~m) := by simp [h]
    _ = w &&& (m ||| ~~~m) := BitVec.and_or_distrib_left.symm
    _ = w := by simp

end Sys2Proof.Proofs
end

section
/-! What the register block promises its controllers (R121 to R124), from the facts about one word replaced. -/

namespace Sys2Proof.Proofs

open Machine

/-- Settles O16: both operations are decided by the bounds check, and a write is one word replaced. -/
theorem registerBlockReadsAndWritesOneWord : Obligations.RegisterBlockReadsAndWritesOneWord := by
  refine fun b o v s => ⟨fun h => ⟨rbReadWord_err b o s h, rbWriteWord_err b o v s h⟩, fun h hfit => ⟨?read, ?write⟩⟩
  case read => exact ⟨_, rbReadWord_ok b o s h, store_getElem?_eq_word (wordIndex_lt_length h hfit)⟩
  case write =>
    refine ⟨_, rbWriteWord_ok b o v s h, rbReadWord_setWord_same v h hfit, setWord_frame .., ?_, fun hv => ?_⟩
    · exact fun c p hne => rbReadWord_setWord_other v h hfit hne
    · rw [rbReadWord_ok b o s h] at hv
      cases hv
      exact setWord_word_self ..

/-- Settles O17: both operations replace the word they read, by its OR with the mask or its AND with the complement. -/
theorem registerBlockSetsAndClearsBits : Obligations.RegisterBlockSetsAndClearsBits := by
  refine fun b o m s => ⟨fun h => ⟨rbSetBits_err m h, rbClearBits_err m h⟩, fun h hfit => ?_⟩
  refine ⟨_, _, _, rbReadWord_ok b o s h,
    rbSetBits_ok b o m s h, rbReadWord_setWord_same _ h hfit, setWord_frame ..,
    fun c p hne => rbReadWord_setWord_other _ h hfit hne, fun hset => ?_,
    rbClearBits_ok b o m s h, rbReadWord_setWord_same _ h hfit, setWord_frame ..,
    fun c p hne => rbReadWord_setWord_other _ h hfit hne, fun hclear => ?_⟩
  · rw [hset, setWord_word_self]
  · rw [and_not_eq_self_of_and_eq_zero hclear, setWord_word_self]

end Sys2Proof.Proofs
end

section
/-! The MI's vectors (R25, R26): the bit of one source in a word, words of six bits, and what a raise leaves. -/

namespace Sys2Proof.Proofs

open Machine

/-! ### Words of the vectors -/

/-- A source's word holds the bit of its index and no other (R27). -/
theorem sourceBit_getLsbD (src : Source) (k : Nat) : (sourceBit src).getLsbD k = (k == sourceIndex src) := by
  have hlt : sourceIndex src < 32 := by cases src <;> decide
  have hpow : (sourceBit src).getLsbD k = (decide (sourceIndex src < 32) && decide (sourceIndex src = k)) :=
    BitVec.getLsbD_twoPow _ _
  simp [hpow, hlt, Bool.beq_eq_decide_eq, eq_comm]

/-- A word whose bits above its low six are 0 is those six bits zero-extended. -/
theorem eq_setWidth_low_six {w : Word} (h : w &&& ~~~0x3F#32 = 0) : w = (w.extractLsb' 0 6).setWidth 32 := by
  calc
    w = w &&& 0x3F#32 := by simpa using (and_not_eq_self_of_and_eq_zero h).symm
    _ = (w.extractLsb' 0 6).setWidth 32 := by
      have hmod : w.toNat &&& 63 = w.toNat % 64 := Nat.and_two_pow_sub_one_eq_mod _ 6
      apply BitVec.eq_of_toNat_eq
      simp [hmod]
      omega

/-! ### What a raise leaves -/

/-- The pending word after a raise: the source's bit is set, every other bit stands (R152). -/
theorem or_sourceBit_getLsbD (w : Word) (src : Source) (k : Nat) :
    (w ||| sourceBit src).getLsbD k = (w.getLsbD k || k == sourceIndex src) := by
  rw [BitVec.getLsbD_or, sourceBit_getLsbD]

@[simp] theorem afterVbl_intr (s : State) : s.afterVbl.miReg .intr = s.miReg .intr ||| sourceBit .vi := by
  simp [State.afterVbl]

/-- The CPU's flag holds the line after a vertical blank: presenting the frame, after the notification, writes no MI word. -/
theorem afterVbl_cpuLine (s : State) : s.afterVbl.cpuLine = s.afterVbl.line := rfl

/-- The events of a vertical blank, in the order of R220. -/
@[simp] theorem afterVbl_events (s : State) :
    s.afterVbl.events = s.events ++
      [.schedule s.cpvb, .notify, .present (s.viReg .dramAddr) (s.viReg .hWidth) (s.viReg .control), .yield] := by
  simp [State.afterVbl]

/-- A vertical blank that completes is the handler's: its two failures record another outcome. -/
theorem exec_vbl_completed {s t : State} (h : exec .vbl s = .next t) (hok : t.outcome = .ok none) :
    t = s.start.afterVbl.completed none := by
  rw [exec_vbl] at h
  split at h
  · split at h <;> cases h
    · simp at hok
    · rfl
  · cases h
    simp at hok

end Sys2Proof.Proofs
end

section
/-! The MI's transactions on its vectors and its read-only registers (R142, R143, R147, R148, R152). -/

namespace Sys2Proof.Proofs

open Machine

/-- Settles O19: both reads are rows of the MI's plain read, and the invariant keeps both vectors to six bits. -/
theorem miVectorReads : Obligations.MiVectorReads := by
  intro form s
  refine ⟨?intrRow, ?maskRow, exec_miRead form .intr s, exec_miRead form .intrMask s, fun hinv => ?sixBits⟩
  case intrRow => cases form <;> decide
  case maskRow => cases form <;> decide
  case sixBits => exact ⟨eq_setWidth_low_six hinv.pendingBits, eq_setWidth_low_six hinv.maskBits⟩

/-- The word of an MI write carries no data: it is the register's row (R101). -/
theorem encode_miWrite_tw (d : Word) (r : MiReg) : (encode (miWrite d r)).tw = writeWord .mi (miOffset r) := by
  cases r <;> rfl

theorem exec_swMiVersion (d : Word) (s : State) : exec (.swMiVersion d) s = .next (s.start.completed none) := rfl

theorem exec_swMiIntr (d : Word) (s : State) : exec (.swMiIntr d) s = .next (s.start.completed none) := rfl

/-- Settles O21: both writes only begin and complete. -/
theorem readOnlyRegisterWritesAreIgnored : Obligations.ReadOnlyRegisterWritesAreIgnored := fun d s =>
  ⟨(encode_miWrite_tw d .version).trans (by decide), (encode_miWrite_tw d .intr).trans (by decide),
    exec_swMiVersion d s, exec_swMiIntr d s⟩

/-- A RAISE word whose low three bits name no source is turned away with `BadSource` (R102, R105). -/
theorem decode_raise_badSource (p : Params) :
    decode p ⟨0x82000006, 0, 0⟩ = .error .badSource ∧ decode p ⟨0x82000007, 0, 0⟩ = .error .badSource := by
  rw [decode_event _ _ (by decide), decode_event _ _ (by decide)]
  decide

/-- Settles O23: a raise is one OR of the pending word and a notification, from a device and from the vertical blank. -/
theorem raiseSetsThePendingBitAndNotifies : Obligations.RaiseSetsThePendingBitAndNotifies := by
  refine ⟨fun src s => ⟨_, exec_raise src s, ?row, ?pending, ?others, rfl⟩, decode_raise_badSource, fun s t h hok => ?vbl⟩
  case row => cases src <;> decide
  case pending =>
    intro k _
    rw [State.completed_miReg, State.notify_miReg, State.setMiReg_miReg, if_pos rfl, or_sourceBit_getLsbD]
  case others =>
    intro r hr
    simp [hr]
  case vbl =>
    obtain rfl := exec_vbl_completed h hok
    refine ⟨fun k _ => ?bit, afterVbl_cpuLine s.start, ?once⟩
    case bit => rw [State.completed_miReg, afterVbl_intr, or_sourceBit_getLsbD, State.start_miReg]
    case once => rw [State.completed_events, afterVbl_events]; rfl

end Sys2Proof.Proofs
end

section
/-! The VI's plain registers (R180 to R204): the rows of their reads and writes, what a completed write leaves in its
register, the scale factors a word gives; and the pending word after a clear, which the acknowledge makes. -/

namespace Sys2Proof.Proofs

open Machine

/-! ### Rows -/

/-- The word of a VI read is its register's row (R101). -/
theorem encode_viRead_tw (form : ReadForm) (r : ViReg) : (encode (viRead form r)).tw = readWord .vi form (viOffset r) := by
  cases r <;> rfl

/-- The word of a VI write carries no data: it is the register's row (R101). -/
theorem encode_viWrite_tw (d : Word) (r : ViReg) : (encode (viWrite d r)).tw = writeWord .vi (viOffset r) := by
  cases r <;> rfl

/-- With the bit of the form masked away, both forms of a VI read are one row (R101, R109). -/
theorem readWord_vi_masked (form : ReadForm) (r : ViReg) :
    readWord .vi form (viOffset r) &&& 0xFBFFFFFF#32 = readWord .vi .u32 (viOffset r) := by
  cases form <;> cases r <;> decide

/-! ### What a completed write stores -/

/-- The arm decision leaves the VI's words (R212). -/
theorem arm_viReg {s t : State} (h : arm s = .ok t) (r : ViReg) : t.viReg r = s.viReg r := by
  rw [arm_frame h]
  rfl

/-- A transaction that ends ok was not cut short: a fault or a refusal records its reason as the outcome (R11). -/
theorem commit_eq_ok {s t : State} {x : Except Abort State} {v : Option ReadResult} (h : s.commit x = .next t)
    (hok : t.outcome = .ok v) : x = .ok t := by
  obtain hx | ⟨f, -, rfl⟩ | ⟨r, -, rfl⟩ := State.commit_next s t x h
  · exact hx
  · cases hok
  · cases hok

/-- A write that ends in the arm decision leaves the VI's words as they were when it decided (R210, R211). -/
theorem commit_arm_viReg {s u t : State} (h : s.commit (do let v ← arm u; return v.completed none) = .next t)
    (hok : t.outcome = .ok none) (r : ViReg) : t.viReg r = u.viReg r := by
  have hx := commit_eq_ok h hok
  cases hu : arm u with
  | ok v =>
    rw [hu] at hx
    cases hx
    exact arm_viReg hu r
  | error a =>
    rw [hu] at hx
    cases hx

/-- The register of a VI write that completes holds the word written, whether the write is plain, arms or retimes; the
acknowledge alone stores nothing (R31, R194 to R212). -/
theorem viReg_of_viWrite_completed {d : Word} {r : ViReg} {s t : State} (hr : r ≠ .current)
    (h : exec (viWrite d r) s = .next t) (hok : t.outcome = .ok none) : t.viReg r = d := by
  by_cases hplain : r ≠ .vSync ∧ r ≠ .vIntr
  · rw [exec_viWrite d r s ⟨hr, hplain⟩] at h
    cases h
    simp
  · obtain rfl | rfl : r = .vSync ∨ r = .vIntr := by tauto
    · rw [viWrite, exec_swViVSync] at h
      split at h
      case isTrue hsame =>
        cases h
        exact hsame.symm
      case isFalse => rw [commit_arm_viReg h hok, State.setViReg_viReg, if_pos rfl]
    · rw [viWrite, exec_swViVIntr] at h
      rw [commit_arm_viReg h hok, State.setViReg_viReg, if_pos rfl]

/-! ### Plain reads and writes, for every register -/

/-- Every VI read but the current line's is plain. -/
theorem plainViRead_viRead {r : ViReg} {pattern : Word} (hr : r ≠ .current)
    (hrow : readWord .vi .u32 (viOffset r) = pattern) : PlainViRead (viRead · r) (viWrite · r) r pattern := by
  refine fun form s => ⟨?row, exec_viRead form r s hr, fun d t hw hok => ?readsBack⟩
  case row => rw [encode_viRead_tw, readWord_vi_masked, hrow]
  case readsBack =>
    have hread := exec_viRead form r t hr
    rw [viReg_of_viWrite_completed hr hw hok] at hread
    exact hread

/-- Every VI write but the acknowledge, the retiming write and the interrupt line's is plain. -/
theorem plainViWrite_viWrite {r : ViReg} {pattern : Word} (hr : r ≠ .current ∧ r ≠ .vSync ∧ r ≠ .vIntr)
    (hrow : writeWord .vi (viOffset r) = pattern) : PlainViWrite (viWrite · r) r pattern := by
  refine fun d s => ⟨?row, _, exec_viWrite d r s hr, ?frame, fun q => ?words⟩
  case row => rw [encode_viWrite_tw, hrow]
  case frame =>
    rw [State.setViReg_eq]
    rfl
  case words => simp

theorem viReg_of_plainViWrite {st : Word → Instr} {r : ViReg} {pattern d : Word} {s t : State}
    (hst : PlainViWrite st r pattern) (h : exec (st d) s = .next t) : t.viReg r = d := by
  obtain ⟨-, u, hu, -, hwords⟩ := hst d s
  obtain rfl : u = t := by simpa [hu] using h
  simpa using hwords r

/-! ### Scale factors -/

/-- A scale factor is the word's low twelve bits over 1024; the bits above are ignored (R217). -/
theorem scaleOf_eq_div (w : Word) : scaleOf w = ((w.toNat % 4096 : Nat) : Rat) / 1024 := by
  rw [scaleOf, Rat.mkRat_eq_div, Int.cast_natCast]
  simp

/-! ### What a clear leaves -/

/-- The pending word after a clear: the source's bit is clear, every other bit stands (R153). -/
theorem and_not_sourceBit_getLsbD (w : Word) (src : Source) (k : Nat) :
    (w &&& ~~~sourceBit src).getLsbD k = (w.getLsbD k && !(k == sourceIndex src)) := by
  by_cases hk : k < 32
  · rw [BitVec.getLsbD_and, BitVec.getLsbD_not, sourceBit_getLsbD]
    simp [hk]
  · simp [BitVec.getLsbD_of_ge w k (Nat.not_lt.mp hk)]

end Sys2Proof.Proofs
end

section
/-! The VI's plain reads and writes, and the acknowledge (R180 to R204, R213). -/

namespace Sys2Proof.Proofs

open Machine

/-- Settles O31: each is the plain read of its register. -/
theorem plainViReadsOfTheFirstRegisters : Obligations.PlainViReadsOfTheFirstRegisters :=
  ⟨plainViRead_viRead (r := .control) (by decide) (by decide),
    plainViRead_viRead (r := .dramAddr) (by decide) (by decide),
    plainViRead_viRead (r := .hWidth) (by decide) (by decide),
    plainViRead_viRead (r := .vIntr) (by decide) (by decide),
    plainViRead_viRead (r := .burst) (by decide) (by decide),
    plainViRead_viRead (r := .vSync) (by decide) (by decide)⟩

/-- Settles O32: each is the plain read of its register. -/
theorem plainViReadsOfTheOtherRegisters : Obligations.PlainViReadsOfTheOtherRegisters :=
  ⟨plainViRead_viRead (r := .hSync) (by decide) (by decide),
    plainViRead_viRead (r := .leap) (by decide) (by decide),
    plainViRead_viRead (r := .hStart) (by decide) (by decide),
    plainViRead_viRead (r := .vStart) (by decide) (by decide),
    plainViRead_viRead (r := .vBurst) (by decide) (by decide),
    plainViRead_viRead (r := .xScale) (by decide) (by decide),
    plainViRead_viRead (r := .yScale) (by decide) (by decide)⟩

/-- Settles O34: each is the plain write of its register, and a scale factor is computed from the word it stored. -/
theorem plainViWritesOfTheOtherRegisters : Obligations.PlainViWritesOfTheOtherRegisters := by
  have hx : PlainViWrite .swViXScale .xScale 0x70000030 := plainViWrite_viWrite (r := .xScale) (by decide) (by decide)
  have hy : PlainViWrite .swViYScale .yScale 0x70000034 := plainViWrite_viWrite (r := .yScale) (by decide) (by decide)
  refine ⟨plainViWrite_viWrite (r := .hStart) (by decide) (by decide),
    plainViWrite_viWrite (r := .vStart) (by decide) (by decide),
    plainViWrite_viWrite (r := .vBurst) (by decide) (by decide),
    hx, hy, fun d s t => ⟨fun h => ?xScale, fun h => ?yScale⟩⟩
  case xScale => rw [State.xScale, viReg_of_plainViWrite hx h, scaleOf_eq_div]
  case yScale => rw [State.yScale, viReg_of_plainViWrite hy h, scaleOf_eq_div]

/-- Settles O41: the acknowledge is one clear of the VI's bit and a notification; the data is nowhere in its result. -/
theorem acknowledgeClearsViPending : Obligations.AcknowledgeClearsViPending := by
  refine fun d s => ⟨(encode_viWrite_tw d .current).trans (by decide), _, exec_swViCurrent d s, fun k => ?pending,
    fun r hr => ?others, rfl⟩
  case pending =>
    rw [State.completed_miReg, State.notify_miReg, State.setMiReg_miReg, if_pos rfl]
    exact and_not_sourceBit_getLsbD _ .vi k
  case others => simp [hr]

end Sys2Proof.Proofs
end

section
/-! The quiet flag (R248): no operation reads it, so every effect commutes with changing it. -/

namespace Sys2Proof.Proofs

open Machine

variable {s t u : State} {i : Instr} {q : Bool}

/-- The arm decision reads the slot, the two VI words and cpvb alone (R212). -/
theorem arm_withQuiet (q : Bool) (s : State) : arm (s.withQuiet q) = (arm s).map (State.withQuiet q) := by
  simp only [arm, State.withQuiet_schedPending, State.withQuiet_viReg, State.withQuiet_cpvb,
    apply_ite (Except.map (State.withQuiet q))]
  rfl

/-- A failure is taken whatever the quiet flag holds, and leaves it (R11, R264). -/
theorem takeAbort_withQuiet (a : Abort) (q : Bool) (s : State) :
    (s.withQuiet q).takeAbort a = (s.takeAbort a).withQuiet q := by
  cases a <;> rfl

/-- A write that ends in the arm decision completes, or is undone, as it would with another quiet flag (R210, R211). -/
theorem commit_arm_withQuiet (h : s.commit (do let v ← arm u; return v.completed none) = .next t) :
    (s.withQuiet q).commit (do let v ← arm (u.withQuiet q); return v.completed none) = .next (t.withQuiet q) := by
  rw [arm_withQuiet]
  cases hu : arm u with
  | ok v =>
    rw [hu] at h
    cases h
    rfl
  | error a =>
    rw [hu] at h
    cases h
    exact congrArg _ (takeAbort_withQuiet a q s)

/-- The diagnostic of DUMP is made from the stores and the two scale registers (R247). -/
theorem exec_dump (s : State) :
    exec .dump s = .next ((s.start.emit (.diag (.dump (s.store .mi) (s.store .vi) s.xScale s.yScale))).completed none) := rfl

/-- No instruction but RESET and QUIET depends on the quiet flag or changes it (R248). In every shape of effect, the
equation that gives the effect, at the state with the flag changed, has the same condition and gives the same updates. -/
theorem exec_withQuiet (h : exec i s = .next t) (hquiet : ∀ p, i ≠ .quiet p) (hreset : ∀ tv, i ≠ .reset tv) :
    exec i (s.withQuiet q) = .next (t.withQuiet q) := by
  cases exec_case i s t h
  case quiet p hi _ => exact absurd hi (hquiet p)
  case reset tv hi _ => exact absurd hi (hreset tv)
  case vIntr | vIntrFault =>
    subst i
    rw [exec_swViVIntr] at h
    have harm := commit_arm_withQuiet (q := q) h
    exact (exec_swViVIntr _ (s.withQuiet q)).trans harm
  case vSync hd _ _ | vSyncFault hd _ _ =>
    subst i
    rw [exec_swViVSync, if_neg hd] at h
    have harm := commit_arm_withQuiet (q := q) h
    exact (exec_swViVSync _ (s.withQuiet q)).trans ((if_neg hd).trans harm)
  case ignored hi ht =>
    subst t
    obtain rfl | rfl := hi
    · exact exec_swMiVersion _ (s.withQuiet q)
    · exact exec_swMiIntr _ (s.withQuiet q)
  all_goals subst i t
  case miRead form r => exact exec_miRead form r (s.withQuiet q)
  case viRead form r hr => exact exec_viRead form r (s.withQuiet q) hr
  case viWrite d r hr => exact exec_viWrite d r (s.withQuiet q) hr
  case viCurrent form => exact exec_lwViCurrent form (s.withQuiet q)
  case acknowledge d => exact exec_swViCurrent d (s.withQuiet q)
  case raised src => exact exec_raise src (s.withQuiet q)
  case cleared src => exact exec_clear src (s.withQuiet q)
  case dump => exact exec_dump (s.withQuiet q)
  case mode d hd => exact (exec_swMiMode d (s.withQuiet q)).trans (if_neg (ne_true_of_eq_false hd))
  case modeDp d hd => exact (exec_swMiMode d (s.withQuiet q)).trans (if_pos hd)
  case maskQuiet d hd => exact (exec_swMiIntrMask d (s.withQuiet q)).trans (if_pos hd)
  case maskNotify d hd => exact (exec_swMiIntrMask d (s.withQuiet q)).trans (if_neg hd)
  case vSyncSame hd => exact (exec_swViVSync _ (s.withQuiet q)).trans (if_pos hd)
  case vbl hp hc => exact (exec_vbl (s.withQuiet q)).trans ((if_pos hp).trans (if_neg hc))
  case vblFault hp hc => exact (exec_vbl (s.withQuiet q)).trans ((if_pos hp).trans (if_pos hc))
  case vblRefused hp => exact (exec_vbl (s.withQuiet q)).trans (if_neg (ne_true_of_eq_false hp))
  case tickNone n hp => exact (exec_tick n (s.withQuiet q)).trans (if_neg (ne_true_of_eq_false hp))
  case tickWait n hp hn => exact (exec_tick n (s.withQuiet q)).trans ((if_pos hp).trans (if_neg hn))
  case tickFire n hp hn hc =>
    exact (exec_tick n (s.withQuiet q)).trans ((if_pos hp).trans ((if_pos hn).trans (if_neg hc)))
  case tickFault n hp hn hc =>
    exact (exec_tick n (s.withQuiet q)).trans ((if_pos hp).trans ((if_pos hn).trans (if_pos hc)))

end Sys2Proof.Proofs
end

section
/-! What the diagnostics do (R247, R248): DUMP reports the stored words, and QUIET sets a flag no rule reads. -/

namespace Sys2Proof.Proofs

open Machine

/-- Settles O54: the diagnostic holds the stores as they stand, and each scale factor is its word's low bits over 1024. -/
theorem dumpReportsTheRawStores : Obligations.DumpReportsTheRawStores := by
  refine fun s => ⟨by decide, ?effect⟩
  case effect =>
    rw [exec_dump, State.xScale, State.yScale, scaleOf_eq_div, scaleOf_eq_div]
    rfl

/-- Settles O55: QUIET is one field update, every instruction but RESET keeps its effect under another flag, and RESET's
result takes nothing from the flag. -/
theorem quietSetsAFlagNoRuleReads : Obligations.QuietSetsAFlagNoRuleReads :=
  ⟨fun q _ => ⟨by cases q <;> decide, rfl⟩, fun _ _ _ _ h hquiet hreset => exec_withQuiet h hquiet hreset,
    fun _ _ _ => rfl⟩

end Sys2Proof.Proofs
end


section
/-! The checks of R103 in their order (R265): the first that fails names the decoder's rejection, and the decoder accepts
exactly when none does. -/

namespace Sys2Proof.Proofs

open Machine

variable {p : Params} {t : Transaction}

/-! ### A word passes the checks of the other kind of word -/

theorem isEvent_of_not_isBus (hk : kindOk t = true) (hb : isBus t.tw = false) : isEvent t.tw = true := by
  have key : ∀ k : BitVec 2, (k != 0b11#2) = true → (k == 0b00#2 || k == 0b01#2) = false → (k == 0b10#2) = true := by
    decide
  exact key (fieldK t.tw) hk hb

theorem isEvent_of_isBus (hb : isBus t.tw = true) : isEvent t.tw = false := by
  have key : ∀ k : BitVec 2, (k == 0b00#2 || k == 0b01#2) = true → (k == 0b10#2) = false := by decide
  exact key (fieldK t.tw) hb

theorem kindOk_of_isBus (hb : isBus t.tw = true) : kindOk t = true := by
  have key : ∀ k : BitVec 2, (k == 0b00#2 || k == 0b01#2) = true → (k != 0b11#2) = true := by decide
  exact key (fieldK t.tw) hb

/-- A bus word passes the checks of event words (R101). -/
theorem eventChecks_of_isBus (hb : isBus t.tw = true) :
    eventZeroOk t = true ∧ eventCodeOk t = true ∧ eventArgOk t = true ∧ sourceOk t = true := by
  simp [eventZeroOk, eventCodeOk, eventArgOk, sourceOk, isEvent_of_isBus hb]

/-- An event word passes the checks of bus words (R102). -/
theorem busChecks_of_isEvent (p : Params) (he : isEvent t.tw = true) :
    kindOk t = true ∧ busZeroOk t = true ∧ writeFormOk t = true ∧ widthOk t = true ∧ boundsOk p t = true := by
  have hk : fieldK t.tw = 0b10#2 := beq_iff_eq.mp he
  simp [kindOk, busZeroOk, writeFormOk, widthOk, boundsOk, isBus, isWrite, hk]

theorem isBus_of_widthOk_eq_false (h : widthOk t = false) : isBus t.tw = true := by
  simp only [widthOk, Bool.or_eq_false_iff, Bool.not_eq_false'] at h
  exact h.1

theorem isBus_of_boundsOk_eq_false (h : boundsOk p t = false) : isBus t.tw = true := by
  simp only [boundsOk, Bool.or_eq_false_iff, Bool.not_eq_false'] at h
  exact h.1

theorem isEvent_of_sourceOk_eq_false (h : sourceOk t = false) : isEvent t.tw = true := by
  simp only [sourceOk, Bool.or_eq_false_iff, Bool.not_eq_false'] at h
  exact h.1.1

/-! ### The first failing check -/

/-- The checks whose failure is `ReservedTransaction` (R105). -/
def notReserved (t : Transaction) : Bool :=
  kindOk t && busZeroOk t && writeFormOk t && eventZeroOk t && eventCodeOk t && eventArgOk t

/-- The rejection of the first failing check, in the order of R103; none for a well-formed word. -/
def firstFailure (p : Params) (t : Transaction) : Option Reject :=
  if notReserved t = false then some .reservedTransaction
  else if widthOk t = false then some .unsupportedWidth
  else if boundsOk p t = false then some (.boundsError (blockBase p (fieldU t.tw) + (fieldO t.tw).toNat) 4)
  else if sourceOk t = false then some .badSource
  else none

theorem notReserved_iff : notReserved t = true ↔
    kindOk t = true ∧ busZeroOk t = true ∧ writeFormOk t = true ∧ eventZeroOk t = true ∧ eventCodeOk t = true ∧
      eventArgOk t = true := by
  simp only [notReserved, Bool.and_eq_true, and_assoc]

theorem notReserved_of_isBus (hb : isBus t.tw = true) :
    notReserved t = true ↔ busZeroOk t = true ∧ writeFormOk t = true := by
  obtain ⟨hz, hc, ha, -⟩ := eventChecks_of_isBus hb
  simp [notReserved_iff, kindOk_of_isBus hb, hz, hc, ha]

theorem notReserved_of_isEvent (he : isEvent t.tw = true) :
    notReserved t = true ↔ eventZeroOk t = true ∧ eventCodeOk t = true ∧ eventArgOk t = true := by
  obtain ⟨hk, hz, hs, -⟩ := busChecks_of_isEvent referenceParams he
  simp [notReserved_iff, hk, hz, hs]

theorem firstFailure_eq_none : firstFailure p t = none ↔ t.wordWellFormed p = true := by
  have hw : t.wordWellFormed p = true ↔
      notReserved t = true ∧ widthOk t = true ∧ boundsOk p t = true ∧ sourceOk t = true := by
    simp only [Transaction.wordWellFormed, notReserved, Bool.and_eq_true]
    tauto
  unfold firstFailure
  split_ifs <;> simp_all

theorem firstFailure_eq_reserved : firstFailure p t = some .reservedTransaction ↔ ¬ notReserved t = true := by
  unfold firstFailure
  split_ifs <;> simp_all

theorem firstFailure_eq_width : firstFailure p t = some .unsupportedWidth ↔
    busZeroOk t = true ∧ writeFormOk t = true ∧ widthOk t = false := by
  have order : firstFailure p t = some .unsupportedWidth ↔ notReserved t = true ∧ widthOk t = false := by
    unfold firstFailure
    split_ifs <;> simp_all
  rw [order, ← and_assoc]
  exact and_congr_left fun hw => notReserved_of_isBus (isBus_of_widthOk_eq_false hw)

theorem firstFailure_eq_bounds {addr : Int} {n : Nat} : firstFailure p t = some (.boundsError addr n) ↔
    busZeroOk t = true ∧ writeFormOk t = true ∧ widthOk t = true ∧ boundsOk p t = false ∧
      addr = blockBase p (fieldU t.tw) + (fieldO t.tw).toNat ∧ n = 4 := by
  have order : firstFailure p t = some (.boundsError addr n) ↔ notReserved t = true ∧ widthOk t = true ∧
      boundsOk p t = false ∧ addr = blockBase p (fieldU t.tw) + (fieldO t.tw).toNat ∧ n = 4 := by
    unfold firstFailure
    split_ifs <;> simp_all
    exact and_congr eq_comm eq_comm
  rw [order, ← and_assoc (a := busZeroOk t = true)]
  exact and_congr_left fun ⟨_, hb, _⟩ => notReserved_of_isBus (isBus_of_boundsOk_eq_false hb)

theorem firstFailure_eq_source : firstFailure p t = some .badSource ↔
    eventZeroOk t = true ∧ eventCodeOk t = true ∧ eventArgOk t = true ∧ sourceOk t = false := by
  have hbus : sourceOk t = false → widthOk t = true ∧ boundsOk p t = true := fun hs =>
    have ⟨_, _, _, hw, hb⟩ := busChecks_of_isEvent p (isEvent_of_sourceOk_eq_false hs)
    ⟨hw, hb⟩
  have order : firstFailure p t = some .badSource ↔ notReserved t = true ∧ sourceOk t = false := by
    unfold firstFailure
    split_ifs <;> simp_all
  rw [order, and_congr_left fun hs => notReserved_of_isEvent (isEvent_of_sourceOk_eq_false hs), and_assoc, and_assoc]

/-! ### The decoder -/

/-- What the decoder's answer says of the checks. -/
def Agrees (f : Option Reject) : Except Reject Decoded → Prop
  | .ok _ => f = none
  | .error r => f = some r

/-- The source index of RAISE and CLEAR names a source exactly when it is below 6 (R102). -/
theorem sourceAt_eq_none_iff (x : BitVec 3) : sourceAt x.toNat = none ↔ ¬ x.toNat < 6 := by
  decide +revert

theorem decodeBus_agrees (hb : isBus t.tw = true) : Agrees (firstFailure p t) (decodeBus p t) := by
  obtain ⟨-, -, -, hs⟩ := eventChecks_of_isBus hb
  have hres : notReserved t = false ↔ fieldBusZero t.tw ≠ 0 ∨ (isWrite t.tw = true ∧ fieldS t.tw = true) := by
    rw [← Bool.not_eq_true, notReserved_of_isBus hb, not_and_or]
    simp [busZeroOk, writeFormOk, hb]
  have hw : widthOk t = false ↔ fieldW t.tw ≠ 0b10#2 := by simp [widthOk, hb]
  have hi : boundsOk p t = inBounds p (fieldU t.tw) (fieldO t.tw).toNat 4 := by simp [boundsOk, hb]
  simp only [firstFailure, decodeBus, hres, hw, hi, hs, busOffset_busAddress]
  split_ifs <;> simp_all [Agrees, busAddress]

/-- Only the checks of an event word can fail in it. -/
theorem firstFailure_of_isEvent (p : Params) (he : isEvent t.tw = true) : firstFailure p t =
    if eventZeroOk t && eventCodeOk t && eventArgOk t then if sourceOk t then none else some .badSource
    else some .reservedTransaction := by
  obtain ⟨hk, hz, hs, hw, hb⟩ := busChecks_of_isEvent p he
  simp only [firstFailure, notReserved, hk, hz, hs, hw, hb, Bool.true_and]
  split_ifs <;> simp_all

theorem decodePlain_agrees (i : Instr) (a : BitVec 8) :
    Agrees (if a == 0 then none else some .reservedTransaction) (decodePlain a i) := by
  unfold decodePlain
  split_ifs <;> simp_all [Agrees]

theorem decodeSource_agrees (mk : Source → Instr) (a : BitVec 8) :
    Agrees (if a.extractLsb' 3 5 == 0 then if (a.extractLsb' 0 3).toNat < 6 then none else some .badSource
      else some .reservedTransaction) (decodeSource a mk) := by
  unfold decodeSource
  by_cases hz : a.extractLsb' 3 5 = 0
  · have hsome := sourceAt_eq_none_iff (a.extractLsb' 0 3)
    rw [if_neg (not_not.mpr hz), if_pos (beq_iff_eq.mpr hz)]
    cases hs : sourceAt (a.extractLsb' 0 3).toNat <;> simp_all [Agrees]
  · rw [if_pos hz, if_neg (mt beq_iff_eq.mp hz)]
    rfl

/-- The event codes of R102. -/
theorem eventCode_cases (e : BitVec 6) (h : 1 ≤ e.toNat ∧ e.toNat ≤ 7) :
    e = 1 ∨ e = 2 ∨ e = 3 ∨ e = 4 ∨ e = 5 ∨ e = 6 ∨ e = 7 := by
  decide +revert

theorem decodeEvent_agrees (he : isEvent t.tw = true) : Agrees (firstFailure p t) (decodeEvent t) := by
  have hplain := fun i => decodePlain_agrees i (fieldA t.tw)
  have hsource := fun mk => decodeSource_agrees mk (fieldA t.tw)
  rw [firstFailure_of_isEvent p he]
  simp only [decodeEvent, eventZeroOk, eventCodeOk, eventArgOk, sourceOk, he]
  by_cases hz : fieldEventZero t.tw = 0
  · rw [if_neg (not_not.mpr hz), hz]
    by_cases hcode : 1 ≤ (fieldE t.tw).toNat ∧ (fieldE t.tw).toNat ≤ 7
    · obtain h | h | h | h | h | h | h := eventCode_cases _ hcode <;> rw [h]
      · simpa using hplain .vbl
      · simpa using hsource .raise
      · simpa using hsource .clear
      · simp [Agrees]
      · simpa using hplain (.tick t.cycles)
      · simpa using hplain .dump
      · by_cases hq : (fieldA t.tw).extractLsb' 1 7 = 0#7 <;> simp [hq, Agrees]
    · rw [← Bool.decide_and, decide_eq_false hcode]
      simp only [Bool.not_true, Bool.false_or, Bool.and_false, Bool.false_and, Bool.false_eq_true, if_false]
      split
      case h_8 => rfl
      all_goals omega
  · rw [if_pos hz, beq_eq_false_iff_ne.mpr hz]
    rfl

/-- The decoder answers by the first failing check. -/
theorem decode_agrees (p : Params) (t : Transaction) : Agrees (firstFailure p t) (decode p t) := by
  unfold decode
  split
  case isTrue hk => exact firstFailure_eq_reserved.mpr (by simp [notReserved, kindOk, hk])
  case isFalse hk =>
    split
    case isTrue hb => exact decodeBus_agrees hb
    case isFalse hb =>
      exact decodeEvent_agrees (isEvent_of_not_isBus (bne_iff_ne.mpr hk) (Bool.eq_false_of_not_eq_true hb))

theorem decode_error_iff {r : Reject} : decode p t = .error r ↔ firstFailure p t = some r := by
  have h := decode_agrees p t
  cases hd : decode p t <;> rw [hd] at h <;> simp_all [Agrees]

theorem decode_ok_iff : (∃ d, decode p t = .ok d) ↔ firstFailure p t = none := by
  have h := decode_agrees p t
  cases hd : decode p t <;> rw [hd] at h <;> simp_all [Agrees]

end Sys2Proof.Proofs
end

section
/-! What the decoder accepts and what it reports (R103, R265), from the first failing check. -/

namespace Sys2Proof.Proofs

open Machine

/-- With no undecoded words there is no raw access (R67). -/
theorem decode_instr_of_no_raw {p : Params} {t : Transaction} {d : Decoded} (hmi : p.miRawWords = 0)
    (hvi : p.viRawWords = 0) (h : decode p t = .ok d) : ∃ i, d = .instr i := by
  cases d with
  | instr i => exact ⟨i, rfl⟩
  | rawRead b o form =>
    obtain ⟨hb, hr, -⟩ := decode_rawRead p t b o form h
    have hwords := raw_needs_words p b o hb hr
    cases b <;> simp [hmi, hvi] at hwords
  | rawWrite b o d =>
    obtain ⟨hb, hr, -⟩ := decode_rawWrite p t b o d h
    have hwords := raw_needs_words p b o hb hr
    cases b <;> simp [hmi, hvi] at hwords

/-- Settles O3: the decoder accepts when no check fails, and the raw access needs a longer store. -/
theorem decoderAcceptsExactlyTheWellFormedWords : Obligations.DecoderAcceptsExactlyTheWellFormedWords := by
  intro p t
  have hok : (∃ d, decode p t = .ok d) ↔ t.wordWellFormed p = true := decode_ok_iff.trans firstFailure_eq_none
  refine ⟨hok, fun hmi hvi => ?_⟩
  rw [← hok]
  constructor
  · rintro ⟨i, hi⟩
    exact ⟨_, hi⟩
  · rintro ⟨d, hd⟩
    obtain ⟨i, rfl⟩ := decode_instr_of_no_raw hmi hvi hd
    exact ⟨i, hd⟩

/-- Settles O4: each reason is reported exactly when the first failing check is its own. -/
theorem decoderReportsTheFirstFailureInOrder : Obligations.DecoderReportsTheFirstFailureInOrder := fun _ _ =>
  ⟨decode_error_iff.trans (firstFailure_eq_reserved.trans (not_congr notReserved_iff)),
    decode_error_iff.trans firstFailure_eq_width,
    fun _ _ => decode_error_iff.trans firstFailure_eq_bounds,
    decode_error_iff.trans firstFailure_eq_source⟩

end Sys2Proof.Proofs
end

section
/-! The round trip of the encoding (R100 to R107): the encoder's transaction decodes to its instruction, and an accepted
word is put together again from its fields by the encoder. -/

namespace Sys2Proof.Proofs

open Machine

/-! ### The instructions by row -/

/-- The rows of the opcode table: the four families of bus rows, and the events. -/
inductive InstrRow : Instr → Prop
  | miRead (form : ReadForm) (r : MiReg) : InstrRow (miRead form r)
  | viRead (form : ReadForm) (r : ViReg) : InstrRow (viRead form r)
  | miWrite (d : Word) (r : MiReg) : InstrRow (miWrite d r)
  | viWrite (d : Word) (r : ViReg) : InstrRow (viWrite d r)
  | vbl : InstrRow .vbl
  | raise (src : Source) : InstrRow (.raise src)
  | clear (src : Source) : InstrRow (.clear src)
  | reset (tv : BitVec 8) : InstrRow (.reset tv)
  | tick (n : Nat) : InstrRow (.tick n)
  | dump : InstrRow .dump
  | quiet (q : Bool) : InstrRow (.quiet q)

theorem instrRow (i : Instr) : InstrRow i := by
  cases i
  case lwMiMode form => exact .miRead form .mode
  case lwMiVersion form => exact .miRead form .version
  case lwMiIntr form => exact .miRead form .intr
  case lwMiIntrMask form => exact .miRead form .intrMask
  case lwViControl form => exact .viRead form .control
  case lwViDramAddr form => exact .viRead form .dramAddr
  case lwViHWidth form => exact .viRead form .hWidth
  case lwViVIntr form => exact .viRead form .vIntr
  case lwViCurrent form => exact .viRead form .current
  case lwViBurst form => exact .viRead form .burst
  case lwViVSync form => exact .viRead form .vSync
  case lwViHSync form => exact .viRead form .hSync
  case lwViLeap form => exact .viRead form .leap
  case lwViHStart form => exact .viRead form .hStart
  case lwViVStart form => exact .viRead form .vStart
  case lwViVBurst form => exact .viRead form .vBurst
  case lwViXScale form => exact .viRead form .xScale
  case lwViYScale form => exact .viRead form .yScale
  case swMiMode d => exact .miWrite d .mode
  case swMiVersion d => exact .miWrite d .version
  case swMiIntr d => exact .miWrite d .intr
  case swMiIntrMask d => exact .miWrite d .intrMask
  case swViControl d => exact .viWrite d .control
  case swViDramAddr d => exact .viWrite d .dramAddr
  case swViHWidth d => exact .viWrite d .hWidth
  case swViVIntr d => exact .viWrite d .vIntr
  case swViCurrent d => exact .viWrite d .current
  case swViBurst d => exact .viWrite d .burst
  case swViVSync d => exact .viWrite d .vSync
  case swViHSync d => exact .viWrite d .hSync
  case swViLeap d => exact .viWrite d .leap
  case swViHStart d => exact .viWrite d .hStart
  case swViVStart d => exact .viWrite d .vStart
  case swViVBurst d => exact .viWrite d .vBurst
  case swViXScale d => exact .viWrite d .xScale
  case swViYScale d => exact .viWrite d .yScale
  case vbl => exact .vbl
  case raise src => exact .raise src
  case clear src => exact .clear src
  case reset tv => exact .reset tv
  case tick n => exact .tick n
  case dump => exact .dump
  case quiet q => exact .quiet q

theorem encode_miRead (form : ReadForm) (r : MiReg) : encode (miRead form r) = encodeMiRead r form := by
  cases r <;> rfl

theorem encode_viRead (form : ReadForm) (r : ViReg) : encode (viRead form r) = encodeViRead r form := by
  cases r <;> rfl

theorem encode_miWrite (d : Word) (r : MiReg) : encode (miWrite d r) = encodeMiWrite r d := by
  cases r <;> rfl

theorem encode_viWrite (d : Word) (r : ViReg) : encode (viWrite d r) = encodeViWrite r d := by
  cases r <;> rfl

/-! ### The fields of an encoded word -/

section
variable (h : BitVec 8) (x : BitVec 24) (e : BitVec 6) (a : BitVec 8)

/-- A field above the offset of a bus word lies in the byte above it (R101). -/
theorem extractLsb'_busWord {start len : Nat} (hs : 24 ≤ start) :
    (h ++ x).extractLsb' start len = h.extractLsb' (start - 24) len :=
  BitVec.extractLsb'_append_eq_of_le hs

theorem getLsbD_busWord {k : Nat} (hk : 24 ≤ k) : (h ++ x).getLsbD k = h.getLsbD (k - 24) := by
  rw [BitVec.getLsbD_append, if_neg (Nat.not_lt.mpr hk)]

theorem fieldO_busWord : fieldO (h ++ x) = x := BitVec.extractLsb'_append_eq_right

theorem fieldA_eventWord : fieldA (eventWord e a) = a := BitVec.extractLsb'_append_eq_right

theorem fieldEventZero_eventWord : fieldEventZero (eventWord e a) = 0 :=
  (BitVec.extractLsb'_append_eq_of_le (by decide)).trans BitVec.extractLsb'_append_eq_right

theorem fieldE_eventWord : fieldE (eventWord e a) = e :=
  (BitVec.extractLsb'_append_eq_of_le (by decide)).trans
    ((BitVec.extractLsb'_append_eq_of_le (by decide)).trans BitVec.extractLsb'_append_eq_right)

theorem fieldK_eventWord : fieldK (eventWord e a) = 0b10#2 :=
  (BitVec.extractLsb'_append_eq_of_le (by decide)).trans
    ((BitVec.extractLsb'_append_eq_of_le (by decide)).trans BitVec.extractLsb'_append_eq_left)

end

/-- The byte of a read word above its offset (R101). -/
def readHead (b : Block) (form : ReadForm) : BitVec 8 :=
  0b00#2 ++ (if b = .vi then 1#1 else 0#1) ++ 0b10#2 ++ (if form = .s32 then 1#1 else 0#1) ++ 0#2

/-- The byte of a write word above its offset (R101). -/
def writeHead (b : Block) : BitVec 8 :=
  0b01#2 ++ (if b = .vi then 1#1 else 0#1) ++ 0b10#2 ++ 0#1 ++ 0#2

theorem readWord_eq (b : Block) (form : ReadForm) (o : Nat) : readWord b form o = readHead b form ++ BitVec.ofNat 24 o := rfl

theorem writeWord_eq (b : Block) (o : Nat) : writeWord b o = writeHead b ++ BitVec.ofNat 24 o := rfl

theorem fieldO_toNat {o : Nat} (h : BitVec 8) (ho : o < 2 ^ 24) : (fieldO (h ++ BitVec.ofNat 24 o)).toNat = o := by
  rw [fieldO_busWord, BitVec.toNat_ofNat, Nat.mod_eq_of_lt ho]

theorem decode_readWord (p : Params) (b : Block) (form : ReadForm) {o : Nat} (ho : o < 2 ^ 24)
    (hb : inBounds p b o 4 = true) : decode p { tw := readWord b form o } = .ok (selectRead b o form) := by
  have hU : fieldU (readHead b form ++ BitVec.ofNat 24 o) = b := by
    rw [fieldU, getLsbD_busWord _ _ (by decide)]
    cases b <;> cases form <;> decide
  have hS : (if fieldS (readHead b form ++ BitVec.ofNat 24 o) then ReadForm.s32 else .u32) = form := by
    rw [fieldS, getLsbD_busWord _ _ (by decide)]
    cases b <;> cases form <;> decide
  have field : ∀ {start len : Nat} {v : BitVec len}, 24 ≤ start → (readHead b form).extractLsb' (start - 24) len = v →
      (readHead b form ++ BitVec.ofNat 24 o).extractLsb' start len = v := fun hs hv =>
    (extractLsb'_busWord _ _ hs).trans hv
  rw [readWord_eq, decode_read p _ ?K ?Z ?W (by rwa [hU, fieldO_toNat _ ho]), hU, fieldO_toNat _ ho, hS]
  case K => exact field (by decide) (by cases b <;> cases form <;> decide)
  case Z => exact field (by decide) (by cases b <;> cases form <;> decide)
  case W => exact field (by decide) (by cases b <;> cases form <;> decide)

theorem decode_writeWord (p : Params) (b : Block) (d : Word) {o : Nat} (ho : o < 2 ^ 24)
    (hb : inBounds p b o 4 = true) : decode p { tw := writeWord b o, data := d } = .ok (selectWrite b o d) := by
  have hU : fieldU (writeHead b ++ BitVec.ofNat 24 o) = b := by
    rw [fieldU, getLsbD_busWord _ _ (by decide)]
    cases b <;> decide
  have hS : fieldS (writeHead b ++ BitVec.ofNat 24 o) = false := by
    rw [fieldS, getLsbD_busWord _ _ (by decide)]
    cases b <;> decide
  have field : ∀ {start len : Nat} {v : BitVec len}, 24 ≤ start → (writeHead b).extractLsb' (start - 24) len = v →
      (writeHead b ++ BitVec.ofNat 24 o).extractLsb' start len = v := fun hs hv =>
    (extractLsb'_busWord _ _ hs).trans hv
  rw [writeWord_eq, decode_write p _ ?K ?Z ?S ?W (by rwa [hU, fieldO_toNat _ ho]), hU, fieldO_toNat _ ho]
  case K => exact field (by decide) (by cases b <;> decide)
  case Z => exact field (by decide) (by cases b <;> decide)
  case S => exact hS
  case W => exact field (by decide) (by cases b <;> decide)

/-- An encoded event is decoded by its code (R102). -/
theorem decode_eventWord (p : Params) (e : BitVec 6) (a : BitVec 8) (n : Nat) :
    decode p { tw := eventWord e a, cycles := n } = decodeEvent { tw := eventWord e a, cycles := n } :=
  decode_event p { tw := eventWord e a, cycles := n } (fieldK_eventWord e a)

theorem decodeSource_sourceIndex (mk : Source → Instr) (src : Source) :
    decodeSource (BitVec.ofNat 8 (sourceIndex src)) mk = .ok (.instr (mk src)) := by
  cases src <;> rfl

/-! ### Decoding an encoded instruction -/

theorem selectRead_miOffset (form : ReadForm) (r : MiReg) : selectRead .mi (miOffset r) form = .instr (miRead form r) := by
  cases r <;> rfl

theorem selectRead_viOffset (form : ReadForm) (r : ViReg) : selectRead .vi (viOffset r) form = .instr (viRead form r) := by
  cases r <;> rfl

theorem selectWrite_miOffset (d : Word) (r : MiReg) : selectWrite .mi (miOffset r) d = .instr (miWrite d r) := by
  cases r <;> rfl

theorem selectWrite_viOffset (d : Word) (r : ViReg) : selectWrite .vi (viOffset r) d = .instr (viWrite d r) := by
  cases r <;> rfl

theorem miOffset_lt (r : MiReg) : miOffset r < 2 ^ 24 := by cases r <;> decide

theorem viOffset_lt (r : ViReg) : viOffset r < 2 ^ 24 := by cases r <;> decide

/-- Settles O1: a bus row's word selects its register's row, and an event's word its code's instruction. -/
theorem decodeOfEncodeIsTheInstruction : Obligations.DecodeOfEncodeIsTheInstruction := by
  intro p i
  cases instrRow i with
  | miRead form r =>
    rw [encode_miRead, encodeMiRead, decode_readWord p .mi form (miOffset_lt r) (inBounds_miOffset p r),
      selectRead_miOffset]
  | viRead form r =>
    rw [encode_viRead, encodeViRead, decode_readWord p .vi form (viOffset_lt r) (inBounds_viOffset p r),
      selectRead_viOffset]
  | miWrite d r =>
    rw [encode_miWrite, encodeMiWrite, decode_writeWord p .mi d (miOffset_lt r) (inBounds_miOffset p r),
      selectWrite_miOffset]
  | viWrite d r =>
    rw [encode_viWrite, encodeViWrite, decode_writeWord p .vi d (viOffset_lt r) (inBounds_viOffset p r),
      selectWrite_viOffset]
  | vbl | reset tv | tick n | dump =>
    rw [encode, decode_eventWord]
    simp [decodeEvent, decodePlain, fieldEventZero_eventWord, fieldE_eventWord, fieldA_eventWord]
  | raise src | clear src =>
    rw [encode, decode_eventWord]
    simp [decodeEvent, decodeSource_sourceIndex, fieldEventZero_eventWord, fieldE_eventWord, fieldA_eventWord]
  | quiet q =>
    rw [encode, decode_eventWord]
    cases q <;> simp [decodeEvent, fieldEventZero_eventWord, fieldE_eventWord, fieldA_eventWord]

/-! ### Encoding what was decoded -/

/-- A bus word is its fields in the order of R101. -/
theorem busWord_eq_fields (w : Word) :
    w = fieldK w ++ w.extractLsb' 29 1 ++ fieldW w ++ w.extractLsb' 26 1 ++ fieldBusZero w ++ fieldO w := by
  simp only [fieldK, fieldW, fieldBusZero, fieldO]
  repeat rw [BitVec.extractLsb'_append_extractLsb'_eq_extractLsb' (by rfl)]
  simp

/-- An event word is its fields in the order of R102. -/
theorem eventWord_eq_fields (w : Word) : w = fieldK w ++ fieldE w ++ fieldEventZero w ++ fieldA w := by
  simp only [fieldK, fieldE, fieldEventZero, fieldA]
  repeat rw [BitVec.extractLsb'_append_extractLsb'_eq_extractLsb' (by rfl)]
  simp

theorem extractLsb'_one (w : Word) (k : Nat) : w.extractLsb' k 1 = if w.getLsbD k then 1#1 else 0#1 := by
  apply BitVec.eq_of_getLsbD_eq
  intro i hi
  obtain rfl : i = 0 := by omega
  cases h : w.getLsbD k <;> simp [h]

/-- The `U` bit is 1 exactly for the VI (R101). -/
theorem blockBit_fieldU (w : Word) : (if fieldU w = .vi then 1#1 else 0#1) = w.extractLsb' 29 1 := by
  rw [extractLsb'_one, fieldU]
  split <;> rfl

/-- The `S` bit is 1 exactly for the signed form (R101). -/
theorem formBit_fieldS (w : Word) :
    (if (if fieldS w then ReadForm.s32 else .u32) = .s32 then 1#1 else 0#1) = w.extractLsb' 26 1 := by
  rw [extractLsb'_one, fieldS]
  split <;> rfl

variable {p : Params} {t : Transaction} {d : Decoded}

/-- A well-formed bus word has no reserved bit set and the width of four bytes (R101). -/
theorem busFields_of_wellFormed (hb : isBus t.tw = true) (h : t.wordWellFormed p = true) :
    fieldBusZero t.tw = 0#2 ∧ fieldW t.tw = 0b10#2 := by
  simp only [Transaction.wordWellFormed, busZeroOk, widthOk, hb, Bool.and_eq_true, Bool.not_true, Bool.false_or,
    beq_iff_eq] at h
  tauto

theorem isBus_of_isWrite (hw : isWrite t.tw = true) : isBus t.tw = true := by
  rw [isBus, show (fieldK t.tw == 0b01#2) = true from hw, Bool.or_true]

theorem writeWord_fields (hw : isWrite t.tw = true) (h : t.wordWellFormed p = true) :
    writeWord (fieldU t.tw) (fieldO t.tw).toNat = t.tw := by
  obtain ⟨hZ, hW⟩ := busFields_of_wellFormed (isBus_of_isWrite hw) h
  have hK : fieldK t.tw = 0b01#2 := beq_iff_eq.mp hw
  have hS : t.tw.extractLsb' 26 1 = 0#1 := by
    have hform : writeFormOk t = true := by
      simp only [Transaction.wordWellFormed, Bool.and_eq_true] at h
      tauto
    have hbit : t.tw.getLsbD 26 = false := by simpa [writeFormOk, hw, fieldS] using hform
    rw [extractLsb'_one, hbit]
    rfl
  conv_rhs => rw [busWord_eq_fields t.tw, hK, hW, hS, hZ]
  rw [writeWord, blockBit_fieldU, BitVec.ofNat_toNat, BitVec.setWidth_eq]

theorem readWord_fields (hb : isBus t.tw = true) (hw : isWrite t.tw = false) (h : t.wordWellFormed p = true) :
    readWord (fieldU t.tw) (if fieldS t.tw then .s32 else .u32) (fieldO t.tw).toNat = t.tw := by
  obtain ⟨hZ, hW⟩ := busFields_of_wellFormed hb h
  have hK : fieldK t.tw = 0b00#2 := by
    rw [isBus, show (fieldK t.tw == 0b01#2) = false from hw, Bool.or_false] at hb
    exact beq_iff_eq.mp hb
  conv_rhs => rw [busWord_eq_fields t.tw, hK, hW, hZ]
  rw [readWord, blockBit_fieldU, formBit_fieldS, BitVec.ofNat_toNat, BitVec.setWidth_eq]

theorem encodeDecoded_selectWrite {b : Block} {o : Nat} (d : Word) (hb : inBounds p b o 4 = true) :
    encodeDecoded (selectWrite b o d) = { tw := writeWord b o, data := d } := by
  cases b with
  | mi =>
    by_cases hr : o < 4 * Config.miWords
    · obtain ⟨r, -, rfl⟩ := miRegAt_inBounds p o hb hr
      rw [selectWrite_miOffset]
      exact encode_miWrite d r
    · rw [selectWrite, miRegAt_raw o (Nat.not_lt.mp hr)]
      rfl
  | vi =>
    by_cases hr : o < 4 * Config.viWords
    · obtain ⟨r, -, rfl⟩ := viRegAt_inBounds p o hb hr
      rw [selectWrite_viOffset]
      exact encode_viWrite d r
    · rw [selectWrite, viRegAt_raw o (Nat.not_lt.mp hr)]
      rfl

theorem encodeDecoded_selectRead {b : Block} {o : Nat} (form : ReadForm) (hb : inBounds p b o 4 = true) :
    encodeDecoded (selectRead b o form) = { tw := readWord b form o } := by
  cases b with
  | mi =>
    by_cases hr : o < 4 * Config.miWords
    · obtain ⟨r, -, rfl⟩ := miRegAt_inBounds p o hb hr
      rw [selectRead_miOffset]
      exact encode_miRead form r
    · rw [selectRead, miRegAt_raw o (Nat.not_lt.mp hr)]
      rfl
  | vi =>
    by_cases hr : o < 4 * Config.viWords
    · obtain ⟨r, -, rfl⟩ := viRegAt_inBounds p o hb hr
      rw [selectRead_viOffset]
      exact encode_viRead form r
    · rw [selectRead, viRegAt_raw o (Nat.not_lt.mp hr)]
      rfl

theorem decodePlain_ok {a : BitVec 8} {i : Instr} (h : decodePlain a i = .ok d) : a = 0 ∧ d = .instr i := by
  unfold decodePlain at h
  split at h
  · cases h
    exact ⟨‹_›, rfl⟩
  · cases h

theorem sourceIndex_of_sourceAt {n : Nat} {src : Source} (h : sourceAt n = some src) : sourceIndex src = n :=
  beq_iff_eq.mp (List.find?_some (p := fun s => sourceIndex s == n) h)

theorem decodeSource_ok {a : BitVec 8} {mk : Source → Instr} (h : decodeSource a mk = .ok d) :
    ∃ src, a = BitVec.ofNat 8 (sourceIndex src) ∧ d = .instr (mk src) := by
  have low : ∀ a : BitVec 8, a.extractLsb' 3 5 = 0 → BitVec.ofNat 8 (a.extractLsb' 0 3).toNat = a := by decide
  unfold decodeSource at h
  split at h
  case isTrue => cases h
  case isFalse hz =>
    split at h
    case h_1 src hsrc =>
      cases h
      exact ⟨src, by rw [sourceIndex_of_sourceAt hsrc, low a (not_not.mp hz)], rfl⟩
    case h_2 => cases h

/-- The argument of QUIET is its flag, with its other bits 0 (R102). -/
theorem quietArg (a : BitVec 8) (h : a.extractLsb' 1 7 = 0) : (if a.getLsbD 0 then 1 else 0) = a := by
  decide +revert

/-- The operand a transaction's word reads, and the word (R100): no operand beside a word that takes none. -/
def usedOperands (t : Transaction) : Transaction where
  tw := t.tw
  data := if isWrite t.tw then t.data else 0
  cycles := if isEvent t.tw && fieldE t.tw == 5 then t.cycles else 0

theorem usedOperands_of_wellFormed (h : t.wellFormed p = true) : usedOperands t = t := by
  rw [Transaction.wellFormed, Bool.and_eq_true, Bool.and_eq_true, dataOk, cyclesOk, Bool.or_eq_true, Bool.or_eq_true,
    beq_iff_eq, beq_iff_eq] at h
  obtain ⟨⟨-, hd⟩, hn⟩ := h
  have hdata : (if isWrite t.tw then t.data else 0) = t.data := ite_eq_left_iff.mpr fun hw => (hd.resolve_left hw).symm
  have hcycles : (if isEvent t.tw && fieldE t.tw == 5 then t.cycles else 0) = t.cycles :=
    ite_eq_left_iff.mpr fun he => (hn.resolve_left he).symm
  rw [usedOperands, hdata, hcycles]

theorem usedOperands_of_eventWord {e : BitVec 6} {a : BitVec 8} (ht : t.tw = eventWord e a) :
    usedOperands t = { tw := eventWord e a, cycles := if e = 5 then t.cycles else 0 } := by
  have hK := fieldK_eventWord e a
  simp [usedOperands, ht, isWrite, isEvent, hK, fieldE_eventWord]

theorem encodeDecoded_of_decodeEvent (he : isEvent t.tw = true) (hwf : t.wordWellFormed p = true)
    (h : decodeEvent t = .ok d) : encodeDecoded d = usedOperands t := by
  simp only [Transaction.wordWellFormed, eventZeroOk, eventCodeOk, he, Bool.and_eq_true, Bool.not_true, Bool.false_or,
    beq_iff_eq, decide_eq_true_eq] at hwf
  obtain ⟨⟨⟨⟨-, hz⟩, hcode⟩, -⟩, -⟩ := hwf
  have ht : t.tw = eventWord (fieldE t.tw) (fieldA t.tw) := by
    conv_lhs => rw [eventWord_eq_fields t.tw, hz, show fieldK t.tw = 0b10#2 from beq_iff_eq.mp he]
    rfl
  rw [usedOperands_of_eventWord ht]
  simp only [decodeEvent, hz, ne_eq, not_true, if_false] at h
  obtain hc | hc | hc | hc | hc | hc | hc := eventCode_cases _ hcode <;> rw [hc] at h ⊢
  · obtain ⟨ha, rfl⟩ := decodePlain_ok h
    rw [ha]
    rfl
  · obtain ⟨src, ha, rfl⟩ := decodeSource_ok h
    rw [ha]
    rfl
  · obtain ⟨src, ha, rfl⟩ := decodeSource_ok h
    rw [ha]
    rfl
  · cases h
    rfl
  · obtain ⟨ha, rfl⟩ := decodePlain_ok h
    rw [ha]
    rfl
  · obtain ⟨ha, rfl⟩ := decodePlain_ok h
    rw [ha]
    rfl
  · change (if (fieldA t.tw).extractLsb' 1 7 = 0 then _ else _) = _ at h
    split at h
    case isTrue hq =>
      cases h
      conv_rhs => rw [← quietArg _ hq]
      rfl
    case isFalse => cases h

/-- An accepted transaction is the encoding of what it decodes to, but for an operand its word does not read. -/
theorem encodeDecoded_of_decode (h : decode p t = .ok d) : encodeDecoded d = usedOperands t := by
  have hwf : t.wordWellFormed p = true := firstFailure_eq_none.mp (decode_ok_iff.mp ⟨d, h⟩)
  obtain ⟨hw, hb, rfl⟩ | ⟨hbus, hw, hb, rfl⟩ | ⟨hbus, he, -⟩ := decode_accepts p t d h
  · rw [encodeDecoded_selectWrite _ hb, writeWord_fields hw hwf]
    simp [usedOperands, hw, isEvent_of_isBus (isBus_of_isWrite hw)]
  · rw [encodeDecoded_selectRead _ hb, readWord_fields hbus hw hwf]
    simp [usedOperands, hw, isEvent_of_isBus hbus]
  · refine encodeDecoded_of_decodeEvent (isEvent_of_not_isBus ?_ hbus) hwf he
    simp only [Transaction.wordWellFormed, Bool.and_eq_true] at hwf
    tauto

/-- Settles O2: a well-formed word decodes, and its fields are those the encoder writes. -/
theorem encodeOfDecodeIsTheTransaction : Obligations.EncodeOfDecodeIsTheTransaction := by
  intro p t h
  have hword : t.wordWellFormed p = true := by
    simp only [Transaction.wellFormed, Bool.and_eq_true] at h
    exact h.1.1
  obtain ⟨d, hd⟩ := decode_ok_iff.mpr (firstFailure_eq_none.mpr hword)
  exact ⟨d, hd, (encodeDecoded_of_decode hd).trans (usedOperands_of_wellFormed h)⟩

end Sys2Proof.Proofs
end

section
/-! The opcode map (R109): what a row says of the words it selects, and the words of raw accesses, which no row selects. -/

namespace Sys2Proof.Proofs

open Machine

variable {p : Params} {t : Transaction} {w : Word} {r : Row}

theorem selects_iff : r.selects w = true ↔ w &&& r.mask = r.pattern := beq_iff_eq

/-- On the mask of one row the patterns of two rows of a word agree. -/
theorem patterns_agree_of_selects {q : Row} (hr : r.selects w = true) (hq : q.selects w = true) :
    r.pattern &&& q.mask = q.pattern &&& r.mask := by
  rw [← selects_iff.mp hr, ← selects_iff.mp hq, BitVec.and_assoc, BitVec.and_assoc, BitVec.and_comm r.mask]

/-- Settles O5: two rows' patterns differ within both masks, unless they are the same row. -/
theorem opcodeRowsAreDisjoint : Obligations.OpcodeRowsAreDisjoint := by
  have apart : ∀ r ∈ opcodeRows, ∀ q ∈ opcodeRows, r.pattern &&& q.mask = q.pattern &&& r.mask → r = q := by
    decide
  exact fun w r q hr hq hrw hqw => apart r hr q hq (patterns_agree_of_selects hrw hqw)

/-- A field that a row's mask covers is the row's own in every word it selects. -/
theorem extractLsb'_of_selects {start len : Nat} (h : r.selects w = true)
    (hm : r.mask.extractLsb' start len = BitVec.allOnes len) :
    w.extractLsb' start len = r.pattern.extractLsb' start len := by
  rw [← selects_iff.mp h, BitVec.extractLsb'_and, hm, BitVec.and_allOnes]

/-- Each row is an event's, or a bus row of an offset below its block's undecoded words. -/
theorem opcodeRow_kind : ∀ r ∈ opcodeRows,
    r.mask.extractLsb' 30 2 = BitVec.allOnes 2 ∧ (isEvent r.pattern = true ∨
      r.mask.extractLsb' 29 1 = BitVec.allOnes 1 ∧ r.mask.extractLsb' 0 24 = BitVec.allOnes 24 ∧
      (fieldO r.pattern).toNat < rawStart (fieldU r.pattern)) := by
  decide

theorem fieldU_congr {v w : Word} (h : v.extractLsb' 29 1 = w.extractLsb' 29 1) : fieldU v = fieldU w := by
  have hbit : v.getLsbD 29 = w.getLsbD 29 := by simpa using congrArg (BitVec.getLsbD · 0) h
  rw [fieldU, fieldU, hbit]

/-- No row selects a bus word of an undecoded offset (R67). -/
theorem selects_raw_eq_false (hb : isBus w = true) (ho : rawStart (fieldU w) ≤ (fieldO w).toNat)
    (hr : r ∈ opcodeRows) : r.selects w = false := by
  by_contra hsel
  have hsel : r.selects w = true := Bool.eq_true_of_not_eq_false hsel
  obtain ⟨hK, hev | ⟨hU, hO, hlt⟩⟩ := opcodeRow_kind r hr
  · have hk : fieldK w = fieldK r.pattern := extractLsb'_of_selects hsel hK
    have hev : isEvent w = true := by rw [isEvent, hk]; exact hev
    rw [isEvent_of_isBus (t := ⟨w, 0, 0⟩) hb] at hev
    cases hev
  · have hoff : fieldO w = fieldO r.pattern := extractLsb'_of_selects hsel hO
    rw [fieldU_congr (extractLsb'_of_selects hsel hU), hoff] at ho
    exact absurd hlt (Nat.not_lt.mpr ho)

/-- Every instruction's word selects a row (R109). -/
theorem exists_row_of_encode (i : Instr) : ∃ r ∈ opcodeRows, r.selects (encode i).tw = true := by
  rw [← List.any_eq_true]
  cases instrRow i with
  | miRead form r => rw [encode_miRead]; cases r <;> cases form <;> decide
  | viRead form r => rw [encode_viRead]; cases r <;> cases form <;> decide
  | miWrite d r => rw [encode_miWrite]; exact (Laws.encodeMiWrite_ok r d).2
  | viWrite d r => rw [encode_viWrite]; exact (Laws.encodeViWrite_ok r d).2
  | vbl => exact Laws.EncodeWellFormed.vbl.2
  | raise src => exact (Laws.EncodeWellFormed.raise src).2
  | clear src => exact (Laws.EncodeWellFormed.clear src).2
  | reset tv => exact (Laws.EncodeWellFormed.reset tv).2
  | tick n => exact (Laws.EncodeWellFormed.tick n).2
  | dump => exact Laws.EncodeWellFormed.dump.2
  | quiet q => exact (Laws.EncodeWellFormed.quiet q).2

end Sys2Proof.Proofs
end

section
/-! One step, by what its transaction decodes to (R13, R103), and the raw access of an undecoded offset (R144, R150, R205,
R206). -/

namespace Sys2Proof.Proofs

open Machine

variable {s : State} {t : Transaction} {rest : List Transaction}

theorem step_of_decode {d : Decoded} (hs : s.input = t :: rest) (hd : decode s.params t = .ok d) :
    step s = runDecoded d { s with input := rest } := by
  simp only [step, State.fetch, hs, hd]

theorem step_of_reject {r : Reject} (hs : s.input = t :: rest) (hd : decode s.params t = .error r) :
    step s = .next (({ s with input := rest } : State).takeReject t r) := by
  simp only [step, State.fetch, hs, hd]

/-! ### Raw accesses -/

theorem isBus_of_decode_raw {p : Params} {d : Decoded} (h : decode p t = .ok d) (hd : ∀ i, d ≠ .instr i) :
    isBus t.tw = true := by
  obtain ⟨hw, -⟩ | ⟨hb, -⟩ | ⟨-, -, i, hi⟩ := decode_accepts p t d h
  · exact isBus_of_isWrite hw
  · exact hb
  · exact absurd hi (hd i)

/-- Replacing a word of a store replaces it in the whole store, and leaves the other store. -/
theorem store_setWord (b c : Block) (i : Nat) (v : Word) (s : State) :
    (s.setWord b i v).store c = if c = b then (s.store b).set i v else s.store c := by
  have key : ∀ {n : Nat} (m : Vector Word n) (raw : List Word),
      (m.setIfInBounds i v).toList ++ (if i < n then raw else raw.set (i - n) v) = (m.toList ++ raw).set i v := by
    intro n m raw
    rw [Vector.toList_setIfInBounds, List.set_append, Vector.length_toList]
    split
    case isTrue => rfl
    case isFalse hi => rw [List.set_eq_of_length_le (by simpa using hi)]
  cases b <;> cases c
  · exact key s.mi s.miRaw
  · rfl
  · rfl
  · exact key s.vi s.viRaw

/-- A word above the registers is replaced among the undecoded words (R67). -/
theorem setWord_raw {b : Block} {o : Nat} (hr : rawStart b ≤ o) (v : Word) (s : State) :
    s.setWord b (o / 4) v =
      { s with miRaw := (s.setWord b (o / 4) v).miRaw, viRaw := (s.setWord b (o / 4) v).viRaw } := by
  have key : ∀ {n : Nat} (m : Vector Word n), 4 * n ≤ o → m.setIfInBounds (o / 4) v = m := fun m hn =>
    Vector.setIfInBounds_eq_of_size_le (by omega)
  cases b
  · rw [State.setWord, key s.mi hr]
  · rw [State.setWord, key s.vi hr]

end Sys2Proof.Proofs
end

section
/-! What an accepted transaction is (R103, R109), and words written out from the encoding. -/

namespace Sys2Proof.Proofs

open Machine

/-- Settles O6: an instruction's word is its encoding, which selects its row; a raw access's offset lies above the offset
of every row, and its step is the word operation at that offset. -/
theorem decodedTransactionIsARowOrARawAccess : Obligations.DecodedTransactionIsARowOrARawAccess := by
  refine ⟨fun p t d h => ?accepted, fun s t rest b o hs hfit => ⟨fun form hd => ?read, fun d hd => ?write⟩⟩
  case accepted =>
    cases d with
    | instr i =>
      obtain ⟨r, hr, hsel⟩ := exists_row_of_encode i
      have htw : (encodeDecoded (.instr i)).tw = (usedOperands t).tw := congrArg _ (encodeDecoded_of_decode h)
      exact .inl ⟨⟨i, rfl⟩, r, hr, htw ▸ hsel⟩
    | rawRead b o form =>
      have hbus := isBus_of_decode_raw h (by simp)
      obtain ⟨hb, hr, rfl, rfl⟩ := decode_rawRead p t b o form h
      have hwords := raw_needs_words p _ _ hb hr
      refine .inr ⟨⟨_, _, .inl ⟨form, rfl⟩, hb, ?_⟩, fun r => selects_raw_eq_false hbus hr⟩
      cases hU : fieldU t.tw <;> rw [hU] at hr hwords <;> exact ⟨hr, hwords⟩
    | rawWrite b o v =>
      have hbus := isBus_of_decode_raw h (by simp)
      obtain ⟨hb, hr, rfl, rfl, rfl⟩ := decode_rawWrite p t b o v h
      have hwords := raw_needs_words p _ _ hb hr
      refine .inr ⟨⟨_, _, .inr rfl, hb, ?_⟩, fun r => selects_raw_eq_false hbus hr⟩
      cases hU : fieldU t.tw <;> rw [hU] at hr hwords <;> exact ⟨hr, hwords⟩
  case read =>
    obtain ⟨hb, -⟩ := decode_rawRead _ _ _ _ _ hd
    refine ⟨_, store_getElem?_eq_word (wordIndex_lt_length hb hfit), ?_⟩
    rw [step_of_decode hs hd, runDecoded, execRawRead_ok b o form { s with input := rest } hb]
    cases b <;> rfl
  case write =>
    obtain ⟨hb, hr, -⟩ := decode_rawWrite _ _ _ _ _ hd
    refine ⟨_, (step_of_decode hs hd).trans (execRawWrite_ok b o d { s with input := rest } hb), ?stored, ?frame,
      fun c hc => (store_setWord b c _ d _).trans (if_neg hc)⟩
    case stored => exact (store_setWord b b _ d _).trans (if_pos rfl)
    case frame =>
      rw [setWord_raw hr]
      rfl

/-- Settles O7: the words are concrete, and the decoder evaluates to their instructions. -/
theorem specWordsDecodeToTheirInstructions : Obligations.SpecWordsDecodeToTheirInstructions := by
  unfold Obligations.SpecWordsDecodeToTheirInstructions
  decide

end Sys2Proof.Proofs
end

section
/-! What every instruction and every step keeps: the parameters, the presented transactions, and the three ways a
transaction ends (R6, R11, R13, R263). -/

namespace Sys2Proof.Proofs

open Machine

variable {i : Instr} {s t u : State}

/-- The three outcomes of a transaction: ok with the sticky flags as they were, or a failure taken whole (R11). -/
inductive Ends (s t : State) : Prop
  | ok (v : Option ReadResult) (ho : t.outcome = .ok v) (hf : t.faulted = s.faulted) (hr : t.refused = s.refused)
  | fault (f : Fault) (ht : t = s.takeFault f)
  | refusal (r : Refusal) (ht : t = s.takeRefusal r)

theorem arm_flags (h : arm s = .ok u) : u.faulted = s.faulted ∧ u.refused = s.refused := by
  rw [arm_frame h]
  exact ⟨rfl, rfl⟩

theorem ends_of_execCase (h : ExecCase i s t) : Ends s t := by
  cases h
  case vIntr d u _ hu ht =>
    obtain ⟨hf, hr⟩ := arm_flags hu
    exact .ok none (by rw [ht]; rfl) (by rw [ht]; exact hf) (by rw [ht]; exact hr)
  case vSync d u _ _ hu ht =>
    obtain ⟨hf, hr⟩ := arm_flags hu
    exact .ok none (by rw [ht]; rfl) (by rw [ht]; exact hf) (by rw [ht]; exact hr)
  case vIntrFault | vSyncFault | vblFault | tickFault => exact .fault _ ‹_›
  case vblRefused ht => exact .refusal _ ht
  all_goals
    subst t
    exact .ok _ rfl rfl rfl

/-- No instruction writes a parameter or the transactions still to come (R6, R13). -/
theorem execCase_keeps_params_input (h : ExecCase i s t) : t.params = s.params ∧ t.input = s.input := by
  cases h
  case vIntr d u _ hu ht => rw [ht, arm_frame hu]; exact ⟨rfl, rfl⟩
  case vSync d u _ _ hu ht => rw [ht, arm_frame hu]; exact ⟨rfl, rfl⟩
  all_goals
    subst t
    exact ⟨rfl, rfl⟩

/-- A step takes the oldest transaction off the list and writes no parameter (R6, R13). -/
theorem step_params_input (h : step s = .next t) : t.params = s.params ∧ t.input = s.input.tail := by
  cases step_case s t h with
  | idle hs ht => rw [ht, hs]; exact ⟨rfl, hs⟩
  | rejected x rest r hs hd ht => rw [ht, hs]; cases r <;> exact ⟨rfl, rfl⟩
  | instr x rest i hs hd ht => rw [hs]; exact execCase_keeps_params_input ht
  | rawRead x rest b o form hs hd ht => rw [ht, hs]; exact ⟨rfl, rfl⟩
  | rawWrite x rest b o d hs hd ht => rw [ht, hs]; cases b <;> exact ⟨rfl, rfl⟩

/-! ### Every transaction ends -/

theorem exists_commit (s : State) (x : Except Abort State) : ∃ t, s.commit x = .next t := by
  cases x with
  | ok t => exact ⟨t, rfl⟩
  | error a => exact ⟨s.takeAbort a, rfl⟩

theorem exists_exec (i : Instr) (s : State) : ∃ t, exec i s = .next t := by
  cases i
  case swMiVersion | swMiIntr | reset | dump | quiet => exact ⟨_, rfl⟩
  all_goals exact exists_commit s _

theorem exists_runDecoded (d : Decoded) (s : State) : ∃ t, runDecoded d s = .next t := by
  cases d with
  | instr i => exact exists_exec i s
  | rawRead b o form => exact exists_commit s _
  | rawWrite b o w => exact exists_commit s _

/-- A rejected transaction takes a fault or a refusal (R11, R261). -/
theorem ends_of_takeReject (x : Transaction) (r : Reject) (s : State) : Ends s (s.takeReject x r) := by
  cases r with
  | boundsError addr n => exact .fault (.boundsError addr n) rfl
  | reservedTransaction => exact .refusal (.reservedTransaction x.tw) rfl
  | unsupportedWidth => exact .refusal (.unsupportedWidth x.tw) rfl
  | badSource => exact .refusal (.badSource x.tw) rfl

theorem ends_of_step {x : Transaction} {rest : List Transaction} (hs : s.input = x :: rest) (h : step s = .next t) :
    Ends { s with input := rest } t := by
  cases step_case s t h with
  | idle hs' _ => rw [hs] at hs'; cases hs'
  | rejected _ _ r hs' _ ht => rw [hs] at hs'; cases hs'; exact ht ▸ ends_of_takeReject x r _
  | instr _ _ i hs' _ ht => rw [hs] at hs'; cases hs'; exact ends_of_execCase ht
  | rawRead _ _ b o form hs' _ ht => rw [hs] at hs'; cases hs'; rw [ht]; exact .ok _ rfl rfl rfl
  | rawWrite _ _ b o d hs' _ ht => rw [hs] at hs'; cases hs'; rw [ht]; cases b <;> exact .ok _ rfl rfl rfl

end Sys2Proof.Proofs
end

section
/-! The sticky flags (R41, R264): every effect commutes with setting them. -/

namespace Sys2Proof.Proofs

open Machine

variable {i : Instr} {s t u : State} {a b : Bool}

/-- The state with sticky flags set beside those it has. -/
def raiseFlags (a b : Bool) (s : State) : State :=
  { s with faulted := s.faulted || a, refused := s.refused || b }

theorem arm_raiseFlags (a b : Bool) (s : State) : arm (raiseFlags a b s) = (arm s).map (raiseFlags a b) := by
  unfold arm
  simp only [apply_ite (Except.map (raiseFlags a b))]
  rfl

theorem takeAbort_raiseFlags (x : Abort) : (raiseFlags a b s).takeAbort x = raiseFlags a b (s.takeAbort x) := by
  cases x <;> rfl

/-- What a transaction answers, with the flags set. -/
def mapNext (f : State → State) : Host.Outcome State Fault Refusal → Host.Outcome State Fault Refusal
  | .next s => .next (f s)
  | .fault r => .fault r
  | .refused r => .refused r

theorem commit_arm_raiseFlags (u : State) :
    (raiseFlags a b s).commit (do let v ← arm (raiseFlags a b u); return v.completed none) =
      mapNext (raiseFlags a b) (s.commit (do let v ← arm u; return v.completed none)) := by
  rw [arm_raiseFlags]
  cases arm u with
  | ok v => rfl
  | error e => exact congrArg _ (takeAbort_raiseFlags e)

/-- No instruction's effect depends on the sticky flags (R264): the equation of its answer, at the state with the flags
set, has the same conditions and gives the same updates. -/
theorem exec_raiseFlags (i : Instr) (s : State) :
    exec i (raiseFlags a b s) = mapNext (raiseFlags a b) (exec i s) := by
  cases instrRow i with
  | miRead form r => rw [exec_miRead, exec_miRead]; rfl
  | viRead form r =>
    by_cases hr : r = .current
    · rw [hr, viRead, exec_lwViCurrent, exec_lwViCurrent]; rfl
    · rw [exec_viRead _ _ _ hr, exec_viRead _ _ _ hr]; rfl
  | miWrite d r =>
    cases r with
    | mode => rw [miWrite, exec_swMiMode, exec_swMiMode, apply_ite (mapNext _)]; rfl
    | version => rfl
    | intr => rfl
    | intrMask => rw [miWrite, exec_swMiIntrMask, exec_swMiIntrMask, apply_ite (mapNext _)]; rfl
  | viWrite d r =>
    by_cases hr : r ≠ .current ∧ r ≠ .vSync ∧ r ≠ .vIntr
    · rw [exec_viWrite _ _ _ hr, exec_viWrite _ _ _ hr]; rfl
    · obtain rfl | rfl | rfl : r = .current ∨ r = .vSync ∨ r = .vIntr := by tauto
      · rw [viWrite, exec_swViCurrent, exec_swViCurrent]; rfl
      · rw [viWrite, exec_swViVSync, exec_swViVSync, apply_ite (mapNext _), ← commit_arm_raiseFlags]; rfl
      · rw [viWrite, exec_swViVIntr, exec_swViVIntr, ← commit_arm_raiseFlags]; rfl
  | vbl => rw [exec_vbl, exec_vbl, apply_ite (mapNext _), apply_ite (mapNext _)]; rfl
  | raise src => rw [exec_raise, exec_raise]; rfl
  | clear src => rw [exec_clear, exec_clear]; rfl
  | reset tv => rfl
  | tick n => rw [exec_tick, exec_tick, apply_ite (mapNext _), apply_ite (mapNext _), apply_ite (mapNext _)]; rfl
  | dump => rfl
  | quiet q => rfl

end Sys2Proof.Proofs
end

section
/-! One step (R11, R13, R103, R260 to R264): the transaction it takes, and how that ends. -/

namespace Sys2Proof.Proofs

open Machine

/-- Settles O8: the decoded instruction is the step's answer. -/
theorem stepRunsTheDecodedInstruction : Obligations.StepRunsTheDecodedInstruction := fun _ _ _ _ hs hd =>
  step_of_decode hs hd

/-- Settles O9: a rejection takes the fault or refusal of its reason. -/
theorem rejectedTransactionTakesItsReason : Obligations.RejectedTransactionTakesItsReason := fun _ _ _ hs =>
  ⟨step_of_reject hs, step_of_reject hs, step_of_reject hs, fun _ _ => step_of_reject hs⟩

/-- Settles O10: with nothing to fetch the step is idle. -/
theorem idleStepChangesNothing : Obligations.IdleStepChangesNothing := by
  intro s hs
  simp only [step, State.fetch, hs]
  rw [State.idleStep, hs]

/-- Settles O11: an idle step, a rejection and a decoded transaction each answer a next state. -/
theorem stepAlwaysAnswersANextState : Obligations.StepAlwaysAnswersANextState := by
  intro s
  cases hs : s.input with
  | nil => exact ⟨_, idleStepChangesNothing s hs⟩
  | cons x rest =>
    cases hd : decode s.params x with
    | error r => exact ⟨_, step_of_reject hs hd⟩
    | ok d => exact step_of_decode hs hd ▸ exists_runDecoded d _

/-- Settles O12: every instruction answers, and its answer ends in one of the three outcomes. -/
theorem transactionEndsInOneOfThreeOutcomes : Obligations.TransactionEndsInOneOfThreeOutcomes := by
  intro i s
  obtain ⟨t, ht⟩ := exists_exec i s
  refine ⟨t, ht, ?_⟩
  cases ends_of_execCase (exec_case i s t ht) with
  | ok v ho hf hr => exact .inl ⟨v, ho, hf, hr⟩
  | fault f h => exact .inr (.inl ⟨f, h⟩)
  | refusal r h => exact .inr (.inr ⟨r, h⟩)

/-- The shapes of effect that fail are the four of `ZeroFramePeriod` and the refused VBL; every other records ok. -/
theorem execCase_failure {i : Instr} {s t : State} (h : ExecCase i s t) :
    (∀ f, t.outcome = .fault f → f = .zeroFramePeriod ∧
      ((∃ d, i = .swViVSync d) ∨ (∃ d, i = .swViVIntr d) ∨ i = .vbl ∨ ∃ n, i = .tick n)) ∧
    (∀ r, t.outcome = .refused r → r = .noPendingVbl 0x81000000 ∧ i = .vbl ∧ s.schedPending = false) := by
  cases h
  case vIntrFault hi _ ht | vSyncFault hi _ _ ht | vblFault hi _ _ ht | tickFault hi _ _ _ ht =>
    subst i t
    simp
  case vblRefused hi hp ht =>
    subst i t
    simp [hp]
  all_goals
    subst t
    simp

/-- Settles O13: by the shapes of effect of an instruction. -/
theorem executionFailsOnlyAsTheRulesSay : Obligations.ExecutionFailsOnlyAsTheRulesSay := fun i s t h =>
  execCase_failure (exec_case i s t h)

/-- Settles O14: a failure is taken whole, and every effect commutes with setting the sticky flags. -/
theorem failureEndsOnlyItsOwnTransaction : Obligations.FailureEndsOnlyItsOwnTransaction := by
  refine ⟨fun s x rest u hs h => ?failed, fun i s t a b h => ?later⟩
  case failed =>
    cases ends_of_step hs h with
    | ok v ho => simp [ho]
    | fault f hu =>
      subst u
      refine ⟨fun g hg => ?_, fun r hr => ?_⟩
      · cases hg; rfl
      · cases hr
    | refusal r hu =>
      subst u
      refine ⟨fun g hg => ?_, fun r hr => ?_⟩
      · cases hg
      · cases hr; rfl
  case later => exact (exec_raiseFlags i s).trans (congrArg _ h)

/-- Settles O15: `BoundsError` is the decoder's alone, reported when the bounds check is the first to fail. -/
theorem accessOutOfBoundsRaisesBoundsError : Obligations.AccessOutOfBoundsRaisesBoundsError := by
  refine ⟨fun p b o n => ?check, fun s x rest hs hbus hz hf hw => ?access⟩
  case check => simp only [inBounds, Bool.and_eq_true, decide_eq_true_eq, and_assoc]
  case access =>
    have hbounds : boundsOk s.params x = inBounds s.params (fieldU x.tw) (fieldO x.tw).toNat 4 := by
      simp [boundsOk, hbus]
    rw [← hbounds]
    refine ⟨fun hb => ?out, fun hb u h addr n hu => ?within⟩
    case out => exact step_of_reject hs (decode_error_iff.mpr (firstFailure_eq_bounds.mpr ⟨hz, hf, hw, hb, rfl, rfl⟩))
    case within =>
      cases step_case s u h with
      | idle hs' => rw [hs] at hs'; cases hs'
      | rejected y rest' r hs' hd ht =>
        rw [hs] at hs'
        cases hs'
        subst u
        cases r with
        | boundsError addr' n' =>
          obtain ⟨-, -, -, hb', -⟩ := firstFailure_eq_bounds.mp (decode_error_iff.mp hd)
          rw [hb] at hb'
          cases hb'
        | reservedTransaction | unsupportedWidth | badSource => cases hu
      | instr y rest' i hs' hd hc => cases ((execCase_failure hc).1 _ hu).1
      | rawRead y rest' b o form hs' hd ht => subst u; cases hu
      | rawWrite y rest' b o d hs' hd ht => subst u; cases hu

end Sys2Proof.Proofs
end

section
/-! Runs of steps (R13): a predicate that every step keeps holds after any number of them. -/

namespace Sys2Proof.Proofs

open Machine

variable {i : Instr} {s t u : State}

theorem run_keeps {P : State → Prop} (hstep : ∀ s t, P s → step s = .next t → P t) :
    ∀ (k : Nat) (s t : State), P s → Host.Core.run core k s = .next t → P t := by
  intro k
  induction k with
  | zero =>
    intro s t hs h
    cases h
    exact hs
  | succ k ih =>
    intro s t hs h
    obtain ⟨u, hu⟩ := stepAlwaysAnswersANextState s
    simp only [Host.Core.run, show core.step s = .next u from hu] at h
    exact ih u t (hstep s u hs hu) h

/-! ### The callback slot -/

/-- The arm decision disarms nothing (R212). -/
theorem arm_keeps_pending (hu : arm s = .ok u) (hp : s.schedPending = true) : u.schedPending = true := by
  obtain ⟨-, rfl⟩ | ⟨hp', -⟩ | ⟨hp', -⟩ := arm_cases s u hu
  · exact hp
  · rw [hp] at hp'; cases hp'
  · rw [hp] at hp'; cases hp'

/-- A vertical blank that fires schedules the next; every other effect but RESET's leaves the slot armed (R220, R223). -/
theorem execCase_keeps_pending (h : ExecCase i s t) (hi : ∀ tv, i ≠ .reset tv) (hp : s.schedPending = true) :
    t.schedPending = true := by
  cases h
  case reset tv hreset _ => exact absurd hreset (hi tv)
  case vIntr d u _ hu ht => rw [ht, State.completed_schedPending]; exact arm_keeps_pending hu hp
  case vSync d u _ _ hu ht => rw [ht, State.completed_schedPending]; exact arm_keeps_pending hu hp
  case vbl | tickFire => subst t; rfl
  all_goals
    subst t
    exact hp

theorem step_keeps_pending (h : step s = .next t) (hp : s.schedPending = true)
    (hi : ∀ x ∈ s.input, ∀ tv, decode s.params x ≠ .ok (.instr (.reset tv))) : t.schedPending = true := by
  cases step_case s t h with
  | idle hs ht => subst t; exact hp
  | rejected x rest r hs hd ht => subst t; cases r <;> exact hp
  | instr x rest i hs hd hc =>
    refine execCase_keeps_pending hc (fun tv hreset => ?_) hp
    exact hi x (hs ▸ List.mem_cons_self) tv (hreset ▸ hd)
  | rawRead x rest b o form hs hd ht => subst t; exact hp
  | rawWrite x rest b o d hs hd ht => subst t; cases b <;> exact hp

/-- A callback is pending, and no presented transaction is a RESET. -/
def ArmedWithoutReset (s : State) : Prop :=
  s.schedPending = true ∧ ∀ x ∈ s.input, ∀ tv, decode s.params x ≠ .ok (.instr (.reset tv))

/-- Settles O59: every step keeps the callback pending and the rest of the list free of RESET. -/
theorem armedCallbackStaysArmedUntilReset : Obligations.ArmedCallbackStaysArmedUntilReset := by
  have hstep : ∀ s t, ArmedWithoutReset s → step s = .next t → ArmedWithoutReset t := by
    intro s t ⟨hp, hi⟩ h
    obtain ⟨hparams, hinput⟩ := step_params_input h
    refine ⟨step_keeps_pending h hp hi, fun x hx => ?_⟩
    rw [hinput] at hx
    rw [hparams]
    exact hi x (List.mem_of_mem_tail hx)
  exact fun k s t hp hi h => (run_keeps hstep k s t ⟨hp, hi⟩ h).1

/-! ### The sticky flags -/

theorem flags_of_ends (h : Ends s t) :
    (s.faulted = true → t.faulted = true) ∧ (s.refused = true → t.refused = true) := by
  cases h with
  | ok v ho hf hr => rw [hf, hr]; exact ⟨id, id⟩
  | fault f ht => subst t; exact ⟨fun _ => rfl, id⟩
  | refusal r ht => subst t; exact ⟨id, fun _ => rfl⟩

theorem step_keeps_flags (h : step s = .next t) :
    (s.faulted = true → t.faulted = true) ∧ (s.refused = true → t.refused = true) := by
  cases hs : s.input with
  | nil =>
    rw [idleStepChangesNothing s hs] at h
    cases h
    exact ⟨id, id⟩
  | cons x rest =>
    have hflags := flags_of_ends (ends_of_step hs h)
    exact hflags

/-- Settles O60: no ending of a transaction clears a flag. -/
theorem stickyFlagsAreNeverCleared : Obligations.StickyFlagsAreNeverCleared := fun k s t h =>
  ⟨fun hf => run_keeps (P := fun s => s.faulted = true) (fun _ _ hs h => (step_keeps_flags h).1 hs) k s t hf h,
    fun hr => run_keeps (P := fun s => s.refused = true) (fun _ _ hs h => (step_keeps_flags h).2 hs) k s t hr h⟩

end Sys2Proof.Proofs
end

section
/-! The retiming arithmetic (R214). -/

namespace Sys2Proof.Proofs

open Machine

variable (clock refresh v : Nat)

/-- The floor of a floor: cycles per line, of the cycles per frame. -/
theorem timing_fst : (timing clock refresh v).1 = clock / refresh / (v + 1) :=
  (Nat.div_div_eq_div_mul clock refresh (v + 1)).symm

theorem timing_snd : (timing clock refresh v).2 = (v + 1) * (timing clock refresh v).1 := rfl

/-- A frame never exceeds the frame period. -/
theorem timing_snd_le : (timing clock refresh v).2 ≤ clock / refresh := by
  rw [timing_snd, timing_fst]
  exact Nat.mul_div_le _ _

/-- Settles O38: each is a fact of natural division. -/
theorem retimingArithmetic : Obligations.RetimingArithmetic := by
  refine fun clock refresh v hr => ⟨timing_fst .., timing_snd .., ?zero, timing_snd_le .., fun hv => ?one⟩
  case zero => exact Nat.div_eq_zero_iff_lt (Nat.mul_pos hr (Nat.succ_pos v))
  case one =>
    subst hv
    exact Prod.ext (by simp [timing]) (by simp [timing])

end Sys2Proof.Proofs
end

section
/-! The invariant (R6, R24 to R26, R35, R36, R141, R241, R262): one rule per operation on the state. -/

namespace Sys2Proof.Proofs

open Machine

variable {i : Instr} {s t u : State}

/-! ### The bits of the MI words -/

theorem and_eq_zero_of_or {n : Nat} {a b c : BitVec n} (ha : a &&& c = 0) (hb : b &&& c = 0) : (a ||| b) &&& c = 0 := by
  rw [BitVec.and_comm, BitVec.and_or_distrib_left, BitVec.and_comm c a, BitVec.and_comm c b, ha, hb, BitVec.or_self]

theorem and_eq_zero_of_and {n : Nat} {a c : BitVec n} (b : BitVec n) (ha : a &&& c = 0) : a &&& b &&& c = 0 := by
  rw [BitVec.and_assoc, BitVec.and_comm b, ← BitVec.and_assoc, ha]
  exact BitVec.zero_and

theorem updateModeFlag_bits {f : ModeFlag} {c m : Word} (d : Word) (hf : f.flag &&& c = 0) (hm : m &&& c = 0) :
    updateModeFlag f d m &&& c = 0 := by
  have hset : (if d.getLsbD f.setBit then m ||| f.flag else m) &&& c = 0 := by
    split
    · exact and_eq_zero_of_or hm hf
    · exact hm
  unfold updateModeFlag
  extract_lets m'
  split
  · exact and_eq_zero_of_and _ hset
  · exact hset

theorem modeAfterWrite_bits (d : Word) {m : Word} (hm : m &&& ~~~0x380#32 = 0) :
    modeAfterWrite d m &&& ~~~0x380#32 = 0 :=
  updateModeFlag_bits d (by decide) (updateModeFlag_bits d (by decide) (updateModeFlag_bits d (by decide) hm))

theorem maskAfterWrite_bits (d : Word) {m : Word} (hm : m &&& ~~~0x3F#32 = 0) :
    maskAfterWrite d m &&& ~~~0x3F#32 = 0 := by
  have low : ∀ x : BitVec 6, x.setWidth 32 &&& ~~~0x3F#32 = 0 := by decide
  exact and_eq_zero_of_or (and_eq_zero_of_and _ hm) (low _)

theorem sourceBit_bits (src : Source) : sourceBit src &&& ~~~0x3F#32 = 0 := by
  cases src <;> decide

/-! ### The rules -/

/-- The invariant reads neither the parity, the flags, nor the model's own fields. -/
theorem inv_unread (h : s.Inv) (parity : BitVec 1) (quiet cpuLine faulted refused : Bool) (draws : Nat)
    (input : List Transaction) (events : List Event) (outcome : TxnOutcome) :
    ({ s with fieldParity := parity, quiet, cpuLine, faulted, refused, draws, input, events, outcome } : State).Inv :=
  { h with }

theorem inv_setViReg {r : ViReg} (hr : r ≠ .vSync) (v : Word) (h : s.Inv) : (s.setViReg r v).Inv where
  storesFit := by simpa [State.storesFit] using h.storesFit
  modeBits := h.modeBits
  version := h.version
  pendingBits := h.pendingBits
  maskBits := h.maskBits
  standard := h.standard
  retimed := by simpa [hr.symm] using h.retimed
  countdownPos := h.countdownPos
  countdownLe := h.countdownLe

/-- The bits a write may set in an MI register (R24 to R26). -/
def miBits : MiReg → Word
  | .mode => 0x380
  | .version => 0
  | .intr => 0x3F
  | .intrMask => 0x3F

theorem inv_setMiReg {r : MiReg} {v : Word} (hr : r ≠ .version) (hv : v &&& ~~~miBits r = 0) (h : s.Inv) :
    (s.setMiReg r v).Inv where
  storesFit := by simpa [State.storesFit] using h.storesFit
  modeBits := by
    rw [State.setMiReg_miReg]
    split
    case isTrue hm => rw [← hm] at hv; exact hv
    case isFalse => exact h.modeBits
  version := by simpa [hr.symm] using h.version
  pendingBits := by
    rw [State.setMiReg_miReg]
    split
    case isTrue hm => rw [← hm] at hv; exact hv
    case isFalse => exact h.pendingBits
  maskBits := by
    rw [State.setMiReg_miReg]
    split
    case isTrue hm => rw [← hm] at hv; exact hv
    case isFalse => exact h.maskBits
  standard := h.standard
  retimed := h.retimed
  countdownPos := h.countdownPos
  countdownLe := h.countdownLe

/-- A retiming write takes the timing of the word it stores (R210). -/
theorem inv_retime (d : Word) (h : s.Inv) : ((s.retime d).setViReg .vSync d).Inv where
  storesFit := by simpa [State.storesFit] using h.storesFit
  modeBits := h.modeBits
  version := h.version
  pendingBits := h.pendingBits
  maskBits := h.maskBits
  standard := h.standard
  retimed := .inl (by simp)
  countdownPos := h.countdownPos
  countdownLe := h.countdownLe

/-- A frame is no longer than the frame period of the standard (R214). -/
theorem cpvb_le (h : s.Inv) : s.cpvb ≤ s.clockHz / s.refreshRateHz := by
  obtain ht | ⟨-, hc, -⟩ := h.retimed
  · rw [show s.cpvb = _ from congrArg Prod.snd ht]
    exact timing_snd_le ..
  · rw [hc]
    exact Nat.zero_le _

theorem inv_slot (h : s.Inv) {pending : Bool} {n : Int} (hpos : pending = true → 0 < n)
    (hle : pending = true → n ≤ (s.clockHz / s.refreshRateHz : Nat)) :
    ({ s with schedPending := pending, schedCountdown := n } : State).Inv :=
  { h with countdownPos := hpos, countdownLe := hle }

theorem inv_scheduleVbl (h : s.Inv) (hc : s.cpvb ≠ 0) : (s.scheduleVbl s.cpvb).Inv :=
  inv_unread (inv_slot h (pending := true) (n := s.cpvb) (fun _ => Int.natCast_pos.mpr (Nat.pos_of_ne_zero hc))
    fun _ => Int.ofNat_le.mpr (cpvb_le h)) ..

theorem inv_arm (hu : arm s = .ok u) (h : s.Inv) : u.Inv := by
  obtain ⟨-, rfl⟩ | ⟨-, -, hc, rfl⟩ | ⟨-, -, rfl⟩ := arm_cases s u hu
  · exact h
  · exact inv_scheduleVbl h hc
  · exact inv_unread h ..

theorem inv_afterVbl (h : s.Inv) (hc : s.cpvb ≠ 0) : s.afterVbl.Inv := by
  have hslot := inv_slot h (pending := false) (n := s.schedCountdown) (by simp) (by simp)
  have henter : s.enterVbl.Inv := inv_unread hslot ..
  have hsched : (s.enterVbl.scheduleVbl s.cpvb).Inv := inv_scheduleVbl henter hc
  have hraise := and_eq_zero_of_or hsched.pendingBits (sourceBit_bits .vi)
  exact inv_unread (inv_setMiReg (r := .intr) (by decide) hraise hsched) ..

theorem inv_resetTo (tv : BitVec 8) (s : State) : (s.resetTo tv).Inv where
  storesFit := by simp [State.storesFit]
  modeBits := by simp
  version := by simp
  pendingBits := by simp
  maskBits := by simp
  standard := ⟨tv, rfl, rfl⟩
  retimed := .inr (by simp)
  countdownPos := by simp
  countdownLe := by simp

/-- The undecoded words count in the lengths of the stores alone (R67). -/
theorem inv_raw {mi vi : List Word} (hmi : mi.length = s.miRaw.length) (hvi : vi.length = s.viRaw.length) (h : s.Inv) :
    ({ s with miRaw := mi, viRaw := vi } : State).Inv :=
  { h with storesFit := by simpa [State.storesFit, hmi, hvi] using h.storesFit }

/-- A raw write touches no register (R150, R205). -/
theorem inv_setWord_raw {b : Block} {o : Nat} (hr : rawStart b ≤ o) (v : Word) (h : s.Inv) :
    (s.setWord b (o / 4) v).Inv := by
  rw [setWord_raw hr]
  refine inv_raw ?_ ?_ h
  · cases b with
    | mi => simp only [State.setWord]; split <;> simp
    | vi => rfl
  · cases b with
    | mi => rfl
    | vi => simp only [State.setWord]; split <;> simp

/-- Every shape of effect is a chain of the operations above. -/
theorem inv_of_execCase (h : s.Inv) (hc : ExecCase i s t) : t.Inv := by
  have hs : s.start.Inv := inv_unread h ..
  cases hc
  case viCurrent form _ ht =>
    subst t
    have hd : s.start.spendDraw.Inv := inv_unread hs ..
    exact inv_unread (inv_setViReg (r := .current) (by decide) _ hd) ..
  case mode d _ _ ht =>
    subst t
    exact inv_unread (inv_setMiReg (r := .mode) (by decide) (modeAfterWrite_bits d h.modeBits) hs) ..
  case modeDp d _ _ ht =>
    subst t
    have hm := inv_setMiReg (r := .mode) (by decide) (modeAfterWrite_bits d h.modeBits) hs
    exact inv_unread (inv_setMiReg (r := .intr) (by decide) (and_eq_zero_of_and _ h.pendingBits) hm) ..
  case maskQuiet d _ _ ht | maskNotify d _ _ ht =>
    subst t
    exact inv_unread (inv_setMiReg (r := .intrMask) (by decide) (maskAfterWrite_bits d h.maskBits) hs) ..
  case acknowledge | cleared =>
    subst t
    exact inv_unread (inv_setMiReg (r := .intr) (by decide) (and_eq_zero_of_and _ h.pendingBits) hs) ..
  case raised src _ ht =>
    subst t
    exact inv_unread (inv_setMiReg (r := .intr) (by decide) (and_eq_zero_of_or h.pendingBits (sourceBit_bits src)) hs) ..
  case viWrite d r hr _ ht =>
    subst t
    exact inv_unread (inv_setViReg hr.2.1 d hs) ..
  case vIntr d u _ hu ht =>
    subst t
    exact inv_unread (inv_arm hu (inv_setViReg (r := .vIntr) (by decide) d hs)) ..
  case vSync d u _ _ hu ht =>
    subst t
    exact inv_unread (inv_arm hu (inv_retime d hs)) ..
  case vbl hcpvb ht =>
    subst t
    exact inv_unread (inv_afterVbl hs hcpvb) ..
  case tickFire n _ _ _ hcpvb ht =>
    subst t
    exact inv_unread (inv_afterVbl hs hcpvb) ..
  case tickWait n _ hp hn ht =>
    subst t
    have hle := h.countdownLe hp
    have hslot := inv_slot hs (pending := s.schedPending) (n := s.schedCountdown - n) (fun _ => by omega)
      fun _ => Int.le_trans (Int.sub_le_self _ (Int.natCast_nonneg n)) hle
    exact inv_unread hslot ..
  case reset tv _ ht =>
    subst t
    exact inv_unread (inv_resetTo tv s) ..
  all_goals
    subst t
    exact inv_unread h ..

/-- Settles O57: a step is idle, a rejection, an instruction's chain of operations, or a raw access. -/
theorem everyStepKeepsTheInvariant : Obligations.EveryStepKeepsTheInvariant := by
  refine fun s t h => ⟨(step_params_input h).1, fun hinv => ?_⟩
  have hrest : ∀ rest, ({ s with input := rest } : State).Inv := fun rest => inv_unread hinv ..
  cases step_case s t h with
  | idle hs ht => subst t; exact inv_unread hinv ..
  | rejected x rest r hs hd ht => subst t; cases r <;> exact inv_unread hinv ..
  | instr x rest i hs hd hc => exact inv_of_execCase (hrest rest) hc
  | rawRead x rest b o form hs hd ht => subst t; exact inv_unread hinv ..
  | rawWrite x rest b o d hs hd ht =>
    subst t
    obtain ⟨-, hr, -⟩ := decode_rawWrite _ _ _ _ _ hd
    have hstart : ({ s with input := rest } : State).start.Inv := inv_unread hinv ..
    exact inv_unread (inv_setWord_raw hr d hstart) ..

/-- Settles O58: the reset of any state meets the invariant, and power-on is the reset of itself. -/
theorem powerOnMeetsTheInvariant : Obligations.PowerOnMeetsTheInvariant :=
  inv_resetTo referenceParams.tvNtsc State.reset

end Sys2Proof.Proofs
end

section
/-! The MI's mode and mask words after a write (R146, R149, R151), bit by bit. -/

namespace Sys2Proof.Proofs

open Machine

/-! ### The mode word -/

theorem getLsbD_and_not {n : Nat} (x y : BitVec n) (j : Nat) :
    (x &&& ~~~y).getLsbD j = (x.getLsbD j && !y.getLsbD j) := by
  by_cases hj : j < n
  · rw [BitVec.getLsbD_and, BitVec.getLsbD_not, decide_eq_true hj, Bool.true_and]
  · rw [BitVec.getLsbD_and, BitVec.getLsbD_of_ge x j (Nat.not_lt.mp hj), Bool.false_and, Bool.false_and]

/-- A flag's update sets and clears the flag's bits, clear winning, and no other (R146). -/
theorem updateModeFlag_getLsbD (f : ModeFlag) (d m : Word) (j : Nat) : (updateModeFlag f d m).getLsbD j =
    ((m.getLsbD j || (f.flag.getLsbD j && d.getLsbD f.setBit)) && !(f.flag.getLsbD j && d.getLsbD f.clearBit)) := by
  unfold updateModeFlag
  cases d.getLsbD f.setBit <;> cases d.getLsbD f.clearBit <;> simp [BitVec.getLsbD_or, getLsbD_and_not, -BitVec.getLsbD_and]

theorem modeAfterWrite_getLsbD (d m : Word) (j : Nat) : (modeAfterWrite d m).getLsbD j =
    if j = 7 then (m.getLsbD 7 || d.getLsbD 8) && !d.getLsbD 7
    else if j = 8 then (m.getLsbD 8 || d.getLsbD 10) && !d.getLsbD 9
    else if j = 9 then (m.getLsbD 9 || d.getLsbD 13) && !d.getLsbD 12
    else m.getLsbD j := by
  have bit : ∀ k, k < 32 → (BitVec.twoPow 32 k).getLsbD j = decide (j = k) := fun k hk => by
    simp [BitVec.getLsbD_twoPow, hk, eq_comm]
  have hebus : flagEbus.flag.getLsbD j = decide (j = 8) := bit 8 (by decide)
  have hinit : flagInit.flag.getLsbD j = decide (j = 7) := bit 7 (by decide)
  have hrdram : flagRdram.flag.getLsbD j = decide (j = 9) := bit 9 (by decide)
  rw [modeAfterWrite, updateModeFlag_getLsbD, updateModeFlag_getLsbD, updateModeFlag_getLsbD, hebus, hinit, hrdram]
  split_ifs <;> simp_all [flagEbus, flagInit, flagRdram]

/-! ### The mask word -/

theorem maskVector_getLsbD (d : Word) (k : Nat) {i : Nat} (hi : i < 6) :
    (maskVector d k).getLsbD i = d.getLsbD (2 * i + k) := by
  unfold maskVector
  interval_cases i <;> simp only [BitVec.getLsbD_append, BitVec.getLsbD_ofBool] <;> simp

/-- A mask bit after a write: set, else kept unless cleared (R149). -/
theorem maskAfterWrite_getLsbD (d m : Word) {i : Nat} (hi : i < 6) : (maskAfterWrite d m).getLsbD i =
    (d.getLsbD (2 * i + 1) || (m.getLsbD i && !d.getLsbD (2 * i))) := by
  have hvec : ∀ k, ((maskVector d k).setWidth 32).getLsbD i = d.getLsbD (2 * i + k) := fun k => by
    rw [BitVec.getLsbD_setWidth, decide_eq_true (by omega), Bool.true_and, maskVector_getLsbD d k hi]
  rw [maskAfterWrite, maskDecode, BitVec.getLsbD_or, getLsbD_and_not, hvec, hvec, Bool.or_comm]
  rfl

/-- The bits above the mask stand (R149). -/
theorem maskAfterWrite_getLsbD_high (d m : Word) {i : Nat} (hi : 6 ≤ i) :
    (maskAfterWrite d m).getLsbD i = m.getLsbD i := by
  have hvec : ∀ x : BitVec 6, (x.setWidth 32).getLsbD i = false := fun x => by
    rw [BitVec.getLsbD_setWidth, BitVec.getLsbD_of_ge x i hi, Bool.and_false]
  rw [maskAfterWrite, BitVec.getLsbD_or, getLsbD_and_not, hvec, hvec, Bool.not_false, Bool.and_true, Bool.or_false]

end Sys2Proof.Proofs
end

section
/-! The MI's writes and its interrupt line (R28, R140, R141, R146, R149, R153). -/

namespace Sys2Proof.Proofs

open Machine

variable {s t : State}

/-- Settles O18: both reads are rows of the MI's plain read, and both facts are clauses of the invariant. -/
theorem miModeAndVersionReads : Obligations.MiModeAndVersionReads := fun form s =>
  ⟨exec_miRead form .mode s, exec_miRead form .version s, fun h => ⟨h.modeBits, h.version⟩⟩

/-- The bits of the three flags, and of the others, in a state whose mode word is that of a mode write. -/
theorem modeBits_of_eq {d m w : Word} (hw : w = modeAfterWrite d m) :
    w.getLsbD 7 = ((m.getLsbD 7 || d.getLsbD 8) && !d.getLsbD 7) ∧
    w.getLsbD 8 = ((m.getLsbD 8 || d.getLsbD 10) && !d.getLsbD 9) ∧
    w.getLsbD 9 = ((m.getLsbD 9 || d.getLsbD 13) && !d.getLsbD 12) ∧
    ∀ k, k ≠ 7 → k ≠ 8 → k ≠ 9 → w.getLsbD k = m.getLsbD k := by
  subst hw
  refine ⟨modeAfterWrite_getLsbD d m 7, modeAfterWrite_getLsbD d m 8, modeAfterWrite_getLsbD d m 9, fun k h7 h8 h9 => ?_⟩
  rw [modeAfterWrite_getLsbD, if_neg h7, if_neg h8, if_neg h9]

/-- Settles O20: the write stores the flags' updates, and with the DP clear it also clears one pending bit and notifies. -/
theorem modeWriteClearWins : Obligations.ModeWriteClearWins := by
  intro d s
  have h := exec_swMiMode d s
  cases hd : d.getLsbD 11 with
  | false =>
    rw [hd, if_neg Bool.false_ne_true] at h
    have hmode : ((s.start.setMiReg .mode (modeAfterWrite d (s.miReg .mode))).completed none).miReg .mode =
        modeAfterWrite d (s.miReg .mode) := by simp
    obtain ⟨h7, h8, h9, hk⟩ := modeBits_of_eq hmode
    refine ⟨_, h, h7, h8, h9, hk, by simp, by simp, fun _ => ⟨by simp, ?frame⟩, fun h => (nomatch h)⟩
    case frame => rw [State.setMiReg_eq]; rfl
  | true =>
    rw [hd, if_pos rfl] at h
    have hmode : ((((s.start.setMiReg .mode (modeAfterWrite d (s.miReg .mode))).setMiReg .intr
        (s.miReg .intr &&& ~~~sourceBit .dp)).notify).completed none).miReg .mode = modeAfterWrite d (s.miReg .mode) := by
      simp
    obtain ⟨h7, h8, h9, hk⟩ := modeBits_of_eq hmode
    refine ⟨_, h, h7, h8, h9, hk, by simp, by simp, fun h => (nomatch h), fun _ => ⟨?pending, ?frame⟩⟩
    case pending =>
      rw [State.completed_miReg, State.notify_miReg, State.setMiReg_miReg, if_pos rfl]
      rfl
    case frame => rw [State.setMiReg_eq, State.setMiReg_eq]; rfl

/-- The mask write's answer, with its notification as a condition of the fields it writes. -/
theorem maskWrite_answer (d : Word) (s : State) : ∃ t, exec (.swMiIntrMask d) s = .next t ∧
    t.miReg .intrMask = maskAfterWrite d (s.miReg .intrMask) ∧ (∀ r, r ≠ .intrMask → t.miReg r = s.miReg r) ∧
    t = { s with
      mi := t.mi
      events := if t.miReg .intrMask &&& s.miReg .intr ≠ 0 then [.notify] else []
      cpuLine := if t.miReg .intrMask &&& s.miReg .intr ≠ 0 then t.line else s.cpuLine
      outcome := .ok none } := by
  have h := exec_swMiIntrMask d s
  by_cases hd : maskAfterWrite d (s.miReg .intrMask) &&& s.miReg .intr = 0
  · rw [if_pos hd] at h
    refine ⟨_, h, by simp, fun r hr => by simp [hr], ?_⟩
    rw [State.completed_miReg, State.setMiReg_miReg, if_pos rfl, if_neg (not_not.mpr hd), if_neg (not_not.mpr hd),
      State.setMiReg_eq]
    rfl
  · rw [if_neg hd] at h
    refine ⟨_, h, by simp, fun r hr => by simp [hr], ?_⟩
    rw [State.completed_miReg, State.notify_miReg, State.setMiReg_miReg, if_pos rfl, if_pos hd, if_pos hd,
      State.setMiReg_eq]
    rfl

/-- Settles O22: by the bits of the mask after a write. -/
theorem maskWriteSetWins : Obligations.MaskWriteSetWins := by
  intro d s
  obtain ⟨t, h, hmask, hothers, hframe⟩ := maskWrite_answer d s
  refine ⟨t, h, fun i hi => ?_, fun i hi => ?_, hothers, hframe⟩
  · rw [hmask, maskAfterWrite_getLsbD d _ hi]
  · rw [hmask, maskAfterWrite_getLsbD_high d _ hi]

/-- Settles O24: a clear is one AND of the pending word and a notification. -/
theorem clearClearsThePendingBitAndNotifies : Obligations.ClearClearsThePendingBitAndNotifies := by
  refine fun src s => ⟨_, exec_clear src s, fun k => ?pending, fun r hr => ?others, ?frame⟩
  case pending =>
    rw [State.completed_miReg, State.notify_miReg, State.setMiReg_miReg, if_pos rfl]
    exact and_not_sourceBit_getLsbD _ src k
  case others => simp [hr]
  case frame => rw [State.setMiReg_eq]; rfl

/-- The places of the sources are those of a vector of six bits (R27). -/
theorem exists_sourceIndex {k : Nat} : k < 6 ↔ ∃ src, sourceIndex src = k := by
  constructor
  · intro hk
    have hsome : ∀ k < 6, (sourceAt k).isSome = true := by decide
    obtain ⟨src, hsrc⟩ := Option.isSome_iff_exists.mp (hsome k hk)
    exact ⟨src, sourceIndex_of_sourceAt hsrc⟩
  · rintro ⟨src, rfl⟩
    cases src <;> decide

theorem bitVec_ne_zero_iff {n : Nat} (x : BitVec n) : x ≠ 0 ↔ ∃ k, k < n ∧ x.getLsbD k = true := by
  have hzero : ∀ k, (0 : BitVec n).getLsbD k = false := fun k => BitVec.getLsbD_zero
  constructor
  · intro hx
    by_contra hbits
    refine hx (BitVec.eq_of_getLsbD_eq fun k hk => ?_)
    rw [hzero]
    exact Bool.eq_false_of_not_eq_true fun h => hbits ⟨k, hk, h⟩
  · rintro ⟨k, -, h⟩ rfl
    rw [hzero] at h
    cases h

/-- Settles O25: the line is the vector's not being 0, and the sources name all of the vector's places. -/
theorem lineIsHighWhenASourceIsPendingAndEnabled : Obligations.LineIsHighWhenASourceIsPendingAndEnabled := by
  intro s
  rw [State.line, bne_iff_ne, bitVec_ne_zero_iff]
  have bit : ∀ k < 6, s.lineValue.getLsbD k = ((s.miReg .intr).getLsbD k && (s.miReg .intrMask).getLsbD k) := by
    intro k hk
    simp [State.lineValue, hk]
  constructor
  · rintro ⟨k, hk, h⟩
    obtain ⟨src, rfl⟩ := exists_sourceIndex.mp hk
    exact ⟨src, Bool.and_eq_true_iff.mp (bit _ hk ▸ h)⟩
  · rintro ⟨src, h⟩
    have hk := exists_sourceIndex.mpr ⟨src, rfl⟩
    exact ⟨_, hk, bit _ hk ▸ Bool.and_eq_true_iff.mpr h⟩

/-- The line is low when no bit is both pending and enabled (R28). -/
theorem line_eq_false {s : State} (h : s.miReg .intrMask &&& s.miReg .intr = 0) : s.line = false := by
  rw [State.line, State.lineValue, ← BitVec.extractLsb'_and, BitVec.and_comm, h]
  rfl

/-- Settles O28: without a notification the CPU's flag is not written. -/
theorem maskClearLeavesTheCpuFlagStale : Obligations.MaskClearLeavesTheCpuFlagStale := by
  intro d s t h hmask
  obtain ⟨u, hu, -, hothers, hframe⟩ := maskWrite_answer d s
  obtain rfl : u = t := by simpa [hu] using h
  rw [if_neg (not_not.mpr hmask), if_neg (not_not.mpr hmask)] at hframe
  refine ⟨line_eq_false ?_, ?_, ?_⟩
  · rw [hothers .intr (by decide)]; exact hmask
  · rw [hframe]
  · rw [hframe]

end Sys2Proof.Proofs
end

section
/-! Which instructions notify, and what they leave (R24 to R26, R42, R126, R145, R154): by the shapes of effect. -/

namespace Sys2Proof.Proofs

open Machine

variable {i : Instr} {s t u : State}

/-- The arm decision emits no `Notify` (R212). -/
theorem arm_notify (hu : arm s = .ok u) (hs : s.events = []) : Event.notify ∉ u.events := by
  obtain ⟨-, rfl⟩ | ⟨-, -, -, rfl⟩ | ⟨-, -, rfl⟩ := arm_cases s u hu <;> simp [hs]

/-- Settles O26: a shape of effect that notifies is one of the list's, and no other shape's instruction is. -/
theorem notifyIsEmittedExactlyByTheseOperations : Obligations.NotifyIsEmittedExactlyByTheseOperations := by
  intro i s t h
  cases exec_case i s t h
  case miRead form r hi ht =>
    subst i t
    cases r <;> simp [miRead]
  case viRead form r _ hi ht =>
    subst i t
    cases r <;> simp [viRead]
  case viWrite d r hr hi ht =>
    subst i t
    cases r <;> simp [viWrite] at hr ⊢
  case vIntr d u hi hu ht | vSync d u hi _ hu ht =>
    subst i t
    have hn := arm_notify hu (by simp)
    simpa using hn
  case ignored d hi ht =>
    subst t
    obtain rfl | rfl := hi <;> simp
  case mode d hi hd ht =>
    subst i t
    simpa using hd
  case maskNotify d hi hd ht =>
    subst i t
    simpa using hd
  case tickWait n hi hp hn ht =>
    subst i t
    have hle : ¬ s.schedCountdown ≤ n := by omega
    simp [hle]
  case tickFire n hi hp hn hc ht =>
    subst i t
    have hle : s.schedCountdown ≤ n := by omega
    simp [hp, hc, hle]
  all_goals
    subst i t
    simp [*]

/-- A shape of effect that notifies ends with the line it copied, and every other but RESET leaves the CPU's flag. -/
theorem execCase_cpuLine (h : ExecCase i s t) : (Event.notify ∈ t.events → t.cpuLine = t.line) ∧
    (Event.notify ∉ t.events → t.cpuLine = s.cpuLine ∨ ∃ tv, i = .reset tv) := by
  cases h
  case reset tv hi ht =>
    subst t
    exact ⟨fun hn => by simp at hn, fun _ => .inr ⟨tv, hi⟩⟩
  case vIntr d u _ hu ht | vSync d u _ _ hu ht =>
    subst t
    have hcpu : u.cpuLine = s.cpuLine := by rw [arm_frame hu]; rfl
    have hn := arm_notify hu (by simp)
    exact ⟨fun h => absurd h hn, fun _ => .inl hcpu⟩
  case vbl | tickFire =>
    subst t
    simp [afterVbl_cpuLine]
  all_goals
    subst t
    simp

/-- Settles O27: by the shapes of effect, and RESET's own result. -/
theorem notifyCopiesTheLineToTheCpu : Obligations.NotifyCopiesTheLineToTheCpu := by
  intro i s t h
  obtain ⟨hline, hkeep⟩ := execCase_cpuLine (exec_case i s t h)
  refine ⟨hline, fun hn hreset => (hkeep hn).resolve_right fun ⟨tv, hi⟩ => hreset tv hi, fun tv hi => ?reset⟩
  case reset =>
    subst i
    cases h
    rfl

/-- Settles O29: every shape of effect writes the MI words its instruction may, and no other. -/
theorem miRegistersAreWrittenOnlyByTheirTransactions : Obligations.MiRegistersAreWrittenOnlyByTheirTransactions := by
  intro i s t h hreset
  cases exec_case i s t h
  case reset tv hi ht => exact absurd hi (hreset tv)
  case vIntr d u hi hu ht | vSync d u hi _ hu ht =>
    subst t
    have hmi : ∀ r, u.miReg r = s.miReg r := fun r => by rw [arm_frame hu]; rfl
    simp [hmi]
  case vbl | tickFire =>
    subst t
    simp [State.afterVbl, *]
  case tickWait | quiet =>
    subst t
    exact ⟨fun h => absurd rfl h, rfl, fun h => absurd rfl h, fun h => absurd rfl h⟩
  all_goals
    subst t
    simp [*]

/-- Settles O30: by the answer of each of the ten, whose MI writes are of MI words alone. -/
theorem miTransactionsLeaveTheVi : Obligations.MiTransactionsLeaveTheVi := by
  intro form d src s t i hi h
  have read : ∀ r, exec (miRead form r) s = .next t →
      t = { s with mi := t.mi, cpuLine := t.cpuLine, events := t.events, outcome := t.outcome } := fun r h => by
    rw [exec_miRead] at h
    cases h
    rfl
  simp only [List.mem_cons, List.not_mem_nil, or_false] at hi
  obtain rfl | rfl | rfl | rfl | rfl | rfl | rfl | rfl | rfl | rfl := hi
  · exact read .mode h
  · exact read .version h
  · exact read .intr h
  · exact read .intrMask h
  · rw [exec_swMiMode] at h
    split at h <;> cases h <;> simp only [State.setMiReg_eq] <;> rfl
  · cases h
    rfl
  · cases h
    rfl
  · obtain ⟨u, hu, -, -, hframe⟩ := maskWrite_answer d s
    obtain rfl : u = t := by simpa [hu] using h
    rw [hframe]
  · rw [exec_raise] at h
    cases h
    rw [State.setMiReg_eq]
    rfl
  · rw [exec_clear] at h
    cases h
    rw [State.setMiReg_eq]
    rfl

end Sys2Proof.Proofs
end

section
/-! The VI's words and the bytes of the stores (R31, R65, R66, R194 to R204, R215, R216). -/

namespace Sys2Proof.Proofs

open Machine

variable {s t u : State}

/-! ### Plain writes -/

theorem exec_plainViWrite {d : Word} {r : ViReg} (hr : r ≠ .current ∧ r ≠ .vSync ∧ r ≠ .vIntr)
    (h : exec (viWrite d r) s = .next t) : t = (s.start.setViReg r d).completed none := by
  rw [exec_viWrite d r s hr] at h
  cases h
  rfl

/-- Settles O33: each is the plain write of its register, and the next vertical blank takes the words stored. -/
theorem plainViWritesOfTheFirstRegisters : Obligations.PlainViWritesOfTheFirstRegisters := by
  refine ⟨plainViWrite_viWrite (r := .control) (by decide) (by decide),
    plainViWrite_viWrite (r := .dramAddr) (by decide) (by decide),
    plainViWrite_viWrite (r := .hWidth) (by decide) (by decide),
    plainViWrite_viWrite (r := .burst) (by decide) (by decide),
    plainViWrite_viWrite (r := .hSync) (by decide) (by decide),
    plainViWrite_viWrite (r := .leap) (by decide) (by decide), fun d s t h => ?_⟩
  obtain rfl := exec_plainViWrite (r := .control) (by decide) h
  refine ⟨?interlaced, ?bpp, rfl, fun u hu hok => ?parity, fun a v u hv hu hok => ?present⟩
  case interlaced => simp [State.interlaced]
  case bpp => simp [State.is32bpp]
  case parity =>
    obtain rfl := exec_vbl_completed hu hok
    have hparity : ∀ s : State, s.start.afterVbl.fieldParity = s.nextParity := fun _ => rfl
    rw [State.completed_fieldParity, hparity]
    simp [State.nextParity, State.interlaced]
  case present =>
    obtain rfl := exec_plainViWrite (r := .dramAddr) (by decide) hv
    obtain rfl := exec_vbl_completed hu hok
    simp

/-! ### Bytes -/

/-- A VI register's write replaces one word of the VI's store. -/
theorem setViReg_word (r : ViReg) (d : Word) (s : State) (b : Block) (i : Nat) :
    (s.setViReg r d).word b i = if b = .vi ∧ i = viOffset r / 4 then d else s.word b i := by
  have hlen : viOffset r / 4 < (s.store .vi).length := by
    have hlt : viOffset r / 4 < Config.viWords := by cases r <;> decide
    rw [State.store, List.length_append, Vector.length_toList]
    exact Nat.lt_add_right _ hlt
  cases b with
  | mi => rfl
  | vi =>
    rw [State.setViReg, State.setWord_word _ _ _ _ _ hlen]
    simp [eq_comm]

theorem viOffset_mod (r : ViReg) : viOffset r % 4 = 0 := by cases r <;> rfl

/-- A VI register's write replaces the four bytes at its offset (R66). -/
theorem setViReg_byteIn (r : ViReg) (d : Word) (s : State) (b : Block) (o : Nat) :
    (s.setViReg r d).byteIn b o =
      if b = .vi ∧ viOffset r ≤ o ∧ o < viOffset r + 4 then byteOfWord d (o - viOffset r) else s.byteIn b o := by
  have hmod := viOffset_mod r
  have hplace : o / 4 = viOffset r / 4 ↔ viOffset r ≤ o ∧ o < viOffset r + 4 := by omega
  simp only [State.byteIn, setViReg_word, hplace]
  split
  case isTrue h =>
    have hk : o % 4 = o - viOffset r := by omega
    rw [hk]
  case isFalse => rfl

/-- Where the windows share no address, it replaces the bytes at four bus addresses (R60, R66). -/
theorem setViReg_byteAt (r : ViReg) (d : Word) (s : State) (hw : windowsApart s.params = true) (a : Nat) :
    (s.setViReg r d).byteAt a =
      if s.params.viBase + viOffset r ≤ a ∧ a < s.params.viBase + viOffset r + 4 then
        some (byteOfWord d (a - (s.params.viBase + viOffset r)))
      else s.byteAt a := by
  have hlen : viOffset r + 4 ≤ s.params.viLen := by
    have hb := inBounds_viOffset s.params r
    simp only [inBounds, Bool.and_eq_true, decide_eq_true_eq] at hb
    exact Int.ofNat_le.mp hb.1.2
  simp only [windowsApart, Bool.or_eq_true, decide_eq_true_eq] at hw
  simp only [State.byteAt, State.setViReg_params, setViReg_byteIn]
  by_cases hin : s.params.viBase + viOffset r ≤ a ∧ a < s.params.viBase + viOffset r + 4
  · rw [if_pos hin, if_neg (by omega), if_pos (by omega), if_pos ⟨trivial, by omega⟩, Nat.sub_sub]
  · rw [if_neg hin]
    split
    case isTrue => rfl
    case isFalse =>
      split
      case isTrue => rw [if_neg (by omega)]
      case isFalse => rfl

/-- Settles O35: the write is of the four bytes at the register's offset, and the windows place them on the bus. -/
theorem plainViWriteChangesOnlyItsFourBytes : Obligations.PlainViWriteChangesOnlyItsFourBytes := by
  intro d r s t h1 h2 h3 h
  obtain rfl := exec_plainViWrite ⟨h1, h2, h3⟩ h
  have hbytes := setViReg_byteIn r d s.start
  refine ⟨fun k hk => ?own, fun b o ho => ?others, fun hw => ?bus⟩
  case own => exact (hbytes .vi _).trans (by rw [if_pos (by simp; omega), Nat.add_sub_cancel_left]; rfl)
  case others => exact (hbytes b o).trans (if_neg ho)
  case bus =>
    have hat := setViReg_byteAt r d s.start hw
    have haddr : busAddress s.params .vi (viOffset r) = ((s.params.viBase + viOffset r : Nat) : Int) := rfl
    rw [haddr, Int.toNat_natCast]
    refine ⟨fun k hk => (hat _).trans ?_, fun a ha => (hat a).trans (if_neg ?_)⟩
    · rw [if_pos (by simp; omega), State.start_params, Nat.add_sub_cancel_left]
      rfl
    · rw [State.start_params]
      omega

/-! ### Who writes a VI word -/

theorem eq_of_setViReg_ne {r q : ViReg} {d : Word} (h : (s.setViReg q d).viReg r ≠ s.viReg r) : r = q := by
  by_contra hr
  exact h (by simp [hr])

/-- Settles O36: every shape of effect writes the VI word of its instruction's register, or none, or is RESET's. -/
theorem viRegistersAreWrittenOnlyByTheirTransactions : Obligations.ViRegistersAreWrittenOnlyByTheirTransactions := by
  intro i s t r h hne
  cases exec_case i s t h
  case reset tv hi _ => exact .inr (.inr ⟨tv, hi⟩)
  case viCurrent form hi ht =>
    subst t
    exact .inr (.inl ⟨eq_of_setViReg_ne (s := s.start.spendDraw) hne, form, hi⟩)
  case viWrite d q hq hi ht =>
    subst t
    obtain rfl := eq_of_setViReg_ne (s := s.start) hne
    exact .inl ⟨hq.1, d, hi⟩
  case vIntr d u hi hu ht =>
    subst t
    rw [State.completed_viReg, arm_viReg hu] at hne
    obtain rfl := eq_of_setViReg_ne (s := s.start) hne
    exact .inl ⟨by decide, d, hi⟩
  case vSync d u hi _ hu ht =>
    subst t
    rw [State.completed_viReg, arm_viReg hu] at hne
    obtain rfl := eq_of_setViReg_ne (s := s.start.retime d) hne
    exact .inl ⟨by decide, d, hi⟩
  all_goals
    subst t
    exact absurd rfl hne

/-! ### The forms of a read -/

/-- Settles O37: a read's answer takes the form beside the word alone, and both readings are of the same bits. -/
theorem readFormsReturnTheSameBits : Obligations.ReadFormsReturnTheSameBits := by
  refine fun s => ⟨fun r => ?mi, fun r => ?vi, fun w => ⟨rfl, ?signed⟩⟩
  case mi => exact ⟨s.miReg r, s.start, exec_miRead .u32 r s, exec_miRead .s32 r s⟩
  case vi =>
    by_cases hr : r = .current
    · subst hr
      exact ⟨_, _, exec_lwViCurrent .u32 s, exec_lwViCurrent .s32 s⟩
    · exact ⟨s.viReg r, s.start, exec_viRead .u32 r s hr, exec_viRead .s32 r s hr⟩
  case signed =>
    rw [ReadResult.value, s32, BitVec.toInt_eq_msb_cond, BitVec.msb_eq_getLsbD_last]
    rfl

/-- Settles O56: each answer begins, records and completes, over the stores as they were. -/
theorem transactionsThatStoreNothingLeaveEveryByte : Obligations.TransactionsThatStoreNothingLeaveEveryByte := by
  intro i s t h hi a
  obtain ⟨form, r, rfl⟩ | ⟨form, r, hr, rfl⟩ | ⟨d, rfl⟩ | ⟨d, rfl⟩ | rfl | ⟨q, rfl⟩ := hi
  · rw [exec_miRead] at h
    cases h
    rfl
  · rw [exec_viRead _ _ _ hr] at h
    cases h
    rfl
  all_goals
    cases h
    rfl

end Sys2Proof.Proofs
end

section
/-! The writes that arm (R210 to R212): the four answers of a write that ends in the arm decision. -/

namespace Sys2Proof.Proofs

open Machine

variable {s u : State}

/-- A transaction that ends in the arm decision of the state it has written. -/
def commitArm (s u : State) : Host.Outcome State Fault Refusal :=
  s.commit (do let v ← arm u; return v.completed none)

section
variable {l v : Word} (hl : u.viReg .vIntr = l) (hv : u.viReg .vSync = v)

theorem commitArm_pending (hp : u.schedPending = true) : commitArm s u = .next (u.completed none) := by
  simp [commitArm, arm, hp]

include hl hv

theorem commitArm_fault (hp : u.schedPending = false) (hg : l < v) (hc : u.cpvb = 0) :
    commitArm s u = .next (s.takeFault .zeroFramePeriod) := by
  simp [commitArm, arm, hp, hl, hv, hg, hc]

theorem commitArm_schedule (hp : u.schedPending = false) (hg : l < v) (hc : u.cpvb ≠ 0) :
    commitArm s u = .next ((u.scheduleVbl u.cpvb).completed none) := by
  simp [commitArm, arm, hp, hl, hv, hg, hc]

theorem commitArm_declined (hp : u.schedPending = false) (hg : ¬ l < v) :
    commitArm s u = .next ((u.emit (.diag (.armDeclined l v))).completed none) := by
  simp [commitArm, arm, hp, hl, hv, hg]

/-- What a write that arms leaves, from the state `u` it has written with no event emitted yet, whose interrupt line and
vertical sync are `l` and `v`. -/
theorem commitArm_answer (hev : u.events = []) (hno : ¬ (u.schedPending = false ∧ l < v ∧ u.cpvb = 0)) :
    ∃ t, commitArm s u = .next t ∧ (∀ q, t.viReg q = u.viReg q) ∧
      (u.schedPending = true → t = { u with events := [], outcome := .ok none }) ∧
      (u.schedPending = false → l < v →
        t = { u with
          schedPending := true, schedCountdown := u.cpvb, events := [.schedule u.cpvb], outcome := .ok none }) ∧
      (u.schedPending = false → ¬ l < v →
        t = { u with events := [.diag (.armDeclined l v)], outcome := .ok none }) := by
  by_cases hp : u.schedPending = true
  · refine ⟨_, commitArm_pending hp, fun _ => rfl, fun _ => ?_, fun h => ?_, fun h => ?_⟩
    · rw [← hev]
      rfl
    · exact absurd hp (ne_true_of_eq_false h)
    · exact absurd hp (ne_true_of_eq_false h)
  · have hp' : u.schedPending = false := Bool.eq_false_of_not_eq_true hp
    by_cases hg : l < v
    · have hc : u.cpvb ≠ 0 := fun hc => hno ⟨hp', hg, hc⟩
      refine ⟨_, commitArm_schedule hl hv hp' hg hc, fun _ => rfl, fun h => absurd h hp, fun _ _ => ?_, fun _ h => absurd hg h⟩
      rw [State.scheduleVbl, hev]
      rfl
    · refine ⟨_, commitArm_declined hl hv hp' hg, fun _ => rfl, fun h => absurd h hp, fun _ h => absurd h hg, fun _ _ => ?_⟩
      rw [State.emit, hev]
      rfl

end

/-- Settles O39: a changed value is a retiming, a store and the arm decision. -/
theorem retimeWriteRecomputesAndArms : Obligations.RetimeWriteRecomputesAndArms := by
  intro d s cps cpvb hcps hcpvb
  subst hcps hcpvb
  have h := exec_swViVSync d s
  have hl : ((s.start.retime d).setViReg .vSync d).viReg .vIntr = s.viReg .vIntr := by simp
  have hv : ((s.start.retime d).setViReg .vSync d).viReg .vSync = d := by simp
  refine ⟨fun hd => ?same, fun hd hp hg hc => ?fault, fun hd hno => ?arms⟩
  case same => exact h.trans (if_pos hd)
  case fault => exact (h.trans (if_neg hd)).trans (commitArm_fault hl hv hp hg hc)
  case arms =>
    obtain ⟨t, ht, hw, hpend, hsched, hdecl⟩ := commitArm_answer (s := s) hl hv rfl hno
    refine ⟨t, (h.trans (if_neg hd)).trans ht, fun q => ?_, fun hp => ?_, fun hp hg => ?_, fun hp hg => ?_⟩
    · rw [hw, State.setViReg_viReg]
      rfl
    · rw [hpend hp, State.setViReg_eq]
      rfl
    · rw [hsched hp hg, State.setViReg_eq]
      rfl
    · rw [hdecl hp hg, State.setViReg_eq]
      rfl

/-- Settles O40: the write is a store and the arm decision, whatever the value stored before. -/
theorem interruptLineWriteArms : Obligations.InterruptLineWriteArms := by
  intro d s
  have h := exec_swViVIntr d s
  have hl : (s.start.setViReg .vIntr d).viReg .vIntr = d := by simp
  have hv : (s.start.setViReg .vIntr d).viReg .vSync = s.viReg .vSync := by simp
  refine ⟨fun hp hg hc => ?fault, fun hno => ?arms⟩
  case fault => exact h.trans (commitArm_fault hl hv hp hg hc)
  case arms =>
    obtain ⟨t, ht, hw, hpend, hsched, hdecl⟩ := commitArm_answer (s := s) hl hv rfl hno
    refine ⟨t, h.trans ht, fun q => ?_, fun hp => ?_, fun hp hg => ?_, fun hp hg => ?_⟩
    · rw [hw, State.setViReg_viReg]
      rfl
    · rw [hpend hp, State.setViReg_eq]
      rfl
    · rw [hsched hp hg, State.setViReg_eq]
      rfl
    · rw [hdecl hp hg, State.setViReg_eq]
      rfl

end Sys2Proof.Proofs
end

section
/-! The current line (R184, R218, R219, R307): the wrapped scanline with the field parity in bit 0. -/

namespace Sys2Proof.Proofs

open Machine

variable {s t : State}

/-- A word with the parity in bit 0 keeps its bits 31:1 (R84). -/
theorem withParity_getLsbD (w : Word) (s : State) (k : Nat) :
    (s.withParity w).getLsbD k = if k = 0 then s.fieldParity.getLsbD 0 else w.getLsbD k := by
  have hmask : (0xFFFFFFFE#32).getLsbD k = (decide (k < 32) && !decide (k = 0)) := by
    by_cases hk : k < 32
    · decide +revert
    · rw [BitVec.getLsbD_of_ge _ _ (Nat.not_lt.mp hk), decide_eq_false hk, Bool.false_and]
  rw [State.withParity, BitVec.getLsbD_or, BitVec.getLsbD_and, BitVec.getLsbD_setWidth, hmask]
  split
  case isTrue h => simp [h]
  case isFalse h =>
    rw [BitVec.getLsbD_of_ge s.fieldParity k (by omega)]
    by_cases hk : k < 32
    · simp [h, hk]
    · simp [BitVec.getLsbD_of_ge w k (Nat.not_lt.mp hk)]

theorem withParity_toNat (w : Word) (s : State) :
    (s.withParity w).toNat = w.toNat / 2 * 2 + s.fieldParity.toNat := by
  have happend : s.withParity w = w.extractLsb' 1 31 ++ s.fieldParity := by
    apply BitVec.eq_of_getLsbD_eq
    intro k hk
    rw [withParity_getLsbD, BitVec.getLsbD_append]
    by_cases h0 : k = 0
    · simp [h0]
    · rw [if_neg h0, if_neg (by omega), BitVec.getLsbD_extractLsb', decide_eq_true (by omega), Bool.true_and]
      congr 1
      omega
  have hlt : w.toNat / 2 < 2 ^ 31 := by omega
  rw [happend, BitVec.toNat_append, ← Nat.shiftLeft_add_eq_or_of_lt s.fieldParity.isLt, Nat.shiftLeft_eq, BitVec.extractLsb'_toNat,
    Nat.shiftRight_eq_div_pow, Nat.mod_eq_of_lt hlt]

theorem currentLine_getLsbD_zero (s : State) (r : Int) : (s.currentLine r).getLsbD 0 = s.fieldParity.getLsbD 0 := by
  unfold State.currentLine
  split <;> exact withParity_getLsbD _ _ 0

theorem currentLine_of_cps (s : State) (r : Int) (hc : s.cps ≠ 0) : s.currentLine r = s.withParity (u32 (s.scanline r)) :=
  if_neg hc

/-- Settles O42: the word read is the parity's bit over the scanline's, and the write-back is of one VI word. -/
theorem currentLineReadRecomputes : Obligations.CurrentLineReadRecomputes := by
  refine fun form s => ⟨s.start.currentLine s.start.untilVbl, _, exec_lwViCurrent form s, ?frame, fun q => ?words,
    currentLine_getLsbD_zero s.start _, fun hc => ?line⟩
  case frame => rw [State.setViReg_eq]; rfl
  case words => simp
  case line =>
    refine ⟨if_neg hc, fun r raw line hr hraw hline k hk => ?_⟩
    subst hr hraw
    have hscan : s.start.scanline s.start.untilVbl = line := by
      rw [hline, Int.fdiv_eq_ediv_of_nonneg _ (Int.natCast_nonneg _)]
      rfl
    rw [currentLine_of_cps s.start _ hc, hscan, withParity_getLsbD, if_neg (by omega)]
    rfl

/-- With cps > 0 a retimed frame is V + 1 lines (R36, R214). -/
theorem cpvb_eq (h : s.Inv) (hc : s.cps ≠ 0) : s.cpvb = ((s.viReg .vSync).toNat + 1) * s.cps := by
  obtain ht | ⟨h0, -⟩ := h.retimed
  · have hcps : s.cps = (timing s.clockHz s.refreshRateHz (s.viReg .vSync).toNat).1 := congrArg Prod.fst ht
    rw [hcps, ← timing_snd]
    exact congrArg Prod.snd ht
  · exact absurd h0 hc

/-- The scanline of a remaining time within the frame is below V (R218). -/
theorem scanline_bounds (h : s.Inv) (hc : s.cps ≠ 0) (hv : s.viReg .vSync ≠ 0) {r : Int} (h0 : 0 < r) (h1 : r ≤ s.cpvb) :
    0 ≤ s.scanline r ∧ s.scanline r < (s.viReg .vSync).toNat := by
  have hvpos : 0 < (s.viReg .vSync).toNat := Nat.pos_of_ne_zero fun h0 => hv (BitVec.eq_of_toNat_eq h0)
  have hcpos : (0 : Int) < s.cps := by omega
  have hlo : 0 ≤ ((s.cpvb : Int) - r) / s.cps := Int.ediv_nonneg (by omega) (by omega)
  have hhi : ((s.cpvb : Int) - r) / s.cps < (s.viReg .vSync).toNat + 1 := by
    refine Int.ediv_lt_of_lt_mul hcpos ?_
    have := cpvb_eq h hc
    zify at this
    omega
  unfold State.scanline
  dsimp only
  split <;> omega

/-- Settles O43: the scanline is below V, and the parity adds at most 1 to it. -/
theorem currentLineStaysWithinTheFrame : Obligations.CurrentLineStaysWithinTheFrame := by
  intro form s t hinv hc hv hp hle h
  rw [exec_lwViCurrent] at h
  cases h
  refine ⟨_, rfl, ?_⟩
  have huntil : s.start.untilVbl = s.schedCountdown := if_pos hp
  obtain ⟨hlo, hhi⟩ := scanline_bounds (r := s.schedCountdown) hinv hc hv (hinv.countdownPos hp) hle
  have hscan : s.start.scanline s.start.untilVbl = s.scanline s.schedCountdown := by rw [huntil]; rfl
  rw [currentLine_of_cps s.start _ hc, hscan, withParity_toNat]
  have hw : (u32 (s.scanline s.schedCountdown)).toNat = (s.scanline s.schedCountdown).toNat := by
    rw [u32, BitVec.toNat_ofInt, Int.emod_eq_of_lt hlo (by omega)]
  have hpar : s.start.fieldParity.toNat < 2 := s.fieldParity.isLt
  omega

/-- Settles O44: with nothing left to go the frame's V + 1 lines have passed, which wraps to line 1, whose bit 0 the parity
replaces. -/
theorem currentLineBeforeArmingIsTheParity : Obligations.CurrentLineBeforeArmingIsTheParity := by
  intro form s t hinv hnone hc hp h
  rw [exec_lwViCurrent] at h
  cases h
  have huntil : s.start.untilVbl = 0 := (if_neg (ne_true_of_eq_false hp)).trans hnone
  have hraw : ((s.cpvb : Int) - 0) / (s.cps : Int) = (s.viReg .vSync).toNat + 1 := by
    rw [Int.sub_zero, cpvb_eq hinv hc, Int.natCast_mul, Int.mul_ediv_cancel _ (Int.natCast_ne_zero.mpr hc)]
    rfl
  have hscan : s.start.scanline 0 = 1 := by
    have hwrap : s.start.scanline 0 = if ((s.viReg .vSync).toNat : Int) ≤ ((s.cpvb : Int) - 0) / s.cps then
        ((s.cpvb : Int) - 0) / s.cps - (s.viReg .vSync).toNat else ((s.cpvb : Int) - 0) / s.cps := rfl
    rw [hwrap, hraw, if_pos (by omega)]
    omega
  have hmask : u32 1 &&& 0xFFFFFFFE#32 = 0#32 := by decide
  rw [State.completed_outcome, currentLine_of_cps s.start _ hc, huntil, hscan, State.withParity, hmask, BitVec.zero_or]
  rfl

end Sys2Proof.Proofs
end

section
/-! Who writes the timing and the parity (R36, R37), by the shapes of effect. -/

namespace Sys2Proof.Proofs

open Machine

variable {i : Instr} {s t : State}

theorem execCase_timing (h : ExecCase i s t) : (t.cps = s.cps ∧ t.cpvb = s.cpvb) ∨
    (∃ d, i = .swViVSync d ∧ d ≠ s.viReg .vSync) ∨ ∃ tv, i = .reset tv := by
  cases h
  case reset tv hi _ => exact .inr (.inr ⟨tv, hi⟩)
  case vSync d _ hi hd _ _ => exact .inr (.inl ⟨d, hi, hd⟩)
  case vIntr d u _ hu ht =>
    rw [ht, arm_frame hu]
    exact .inl ⟨rfl, rfl⟩
  all_goals
    subst t
    exact .inl ⟨rfl, rfl⟩

/-- Settles O46: the changing V_SYNC write and RESET are the shapes of effect that write cps or cpvb. -/
theorem timingIsWrittenOnlyByRetimeAndReset : Obligations.TimingIsWrittenOnlyByRetimeAndReset := by
  refine fun i s t h => ⟨fun hne => ?writers, fun tv hi => ?reset⟩
  case writers =>
    obtain ⟨hcps, hcpvb⟩ | hwriter := execCase_timing (exec_case i s t h)
    · exact absurd hne (not_or.mpr ⟨not_not.mpr hcps, not_not.mpr hcpvb⟩)
    · exact hwriter
  case reset =>
    subst i
    cases h
    exact ⟨rfl, rfl⟩

theorem execCase_parity (h : ExecCase i s t) : t.fieldParity = s.fieldParity ∨ i = .vbl ∨
    (∃ n : Nat, i = .tick n ∧ s.schedPending = true ∧ s.schedCountdown - (n : Int) ≤ 0) ∨ ∃ tv, i = .reset tv := by
  cases h
  case vbl hi _ _ _ => exact .inr (.inl hi)
  case tickFire n hi hp hn _ _ => exact .inr (.inr (.inl ⟨n, hi, hp, hn⟩))
  case reset tv hi _ => exact .inr (.inr (.inr ⟨tv, hi⟩))
  case vIntr d u _ hu ht | vSync d u _ _ hu ht =>
    rw [ht, arm_frame hu]
    exact .inl rfl
  all_goals
    subst t
    exact .inl rfl

/-- The handler's parity: toggled while interlaced, else 0 (R220). -/
theorem parity_of_vbl (h : exec .vbl s = .next t) (hok : t.outcome = .ok none) :
    t.fieldParity = if s.interlaced then s.fieldParity ^^^ 1 else 0 := by
  obtain rfl := exec_vbl_completed h hok
  rfl

/-- A due TICK that completes answers as VBL does (R241). -/
theorem exec_tick_due {n : Nat} (hp : s.schedPending = true) (hn : s.schedCountdown - (n : Int) ≤ 0) :
    exec (.tick n) s = exec .vbl s := by
  rw [exec_tick, exec_vbl, if_pos hp, if_pos hp, if_pos hn]

/-- Settles O47: the vertical-blank handler and RESET are the shapes of effect that write the parity, and a due TICK is
the handler. -/
theorem parityIsWrittenOnlyByTheVblHandlerAndReset : Obligations.ParityIsWrittenOnlyByTheVblHandlerAndReset := by
  refine fun i s t h => ⟨fun hne => ?writers, fun hi hok => ?vbl, fun n hi hp hn hok => ?tick, fun tv hi => ?reset⟩
  case writers => exact (execCase_parity (exec_case i s t h)).resolve_left hne
  case vbl =>
    subst i
    exact parity_of_vbl h hok
  case tick =>
    subst i
    rw [exec_tick_due hp hn] at h
    exact parity_of_vbl h hok
  case reset =>
    subst i
    cases h
    rfl

end Sys2Proof.Proofs
end

section
/-! The collaborators' events (R220, R241, R290, R291), and power-on. -/

namespace Sys2Proof.Proofs

open Machine

/-- The whole state a vertical blank leaves (R220). -/
theorem afterVbl_eq (s : State) : s.afterVbl = { s with
    mi := s.afterVbl.mi
    fieldParity := s.nextParity
    schedPending := true
    schedCountdown := s.cpvb
    cpuLine := s.afterVbl.line
    events := s.afterVbl.events } := by
  simp only [State.afterVbl, State.setMiReg_eq]
  rfl

/-- Settles O48: the three answers of VBL; the third is the handler's state, its events in the order of R220. -/
theorem verticalBlankHandler : Obligations.VerticalBlankHandler := by
  refine fun s => ⟨fun hp => ?refused, fun hp hc => ?fault, fun hp hc => ?fires⟩
  case refused => exact (exec_vbl s).trans (if_neg (ne_true_of_eq_false hp))
  case fault => exact (exec_vbl s).trans ((if_pos hp).trans (if_pos hc))
  case fires =>
    refine ⟨_, (exec_vbl s).trans ((if_pos hp).trans (if_neg hc)), fun r => ?words, ?frame⟩
    case words =>
      rw [State.completed_miReg, State.afterVbl, State.presentFrame_miReg, State.notify_miReg, State.setMiReg_miReg]
      rfl
    case frame =>
      conv_lhs => rw [afterVbl_eq, afterVbl_events]
      rfl

/-- Settles O49: the four answers of TICK; a due one is VBL's. -/
theorem tickAdvancesTheCountdown : Obligations.TickAdvancesTheCountdown := by
  refine fun n s => ⟨fun hp => ?none, fun hp hn => ?wait, fun hp hn _ => exec_tick_due hp (by omega), fun hp hn hc => ?fault⟩
  case none => exact (exec_tick n s).trans (if_neg (ne_true_of_eq_false hp))
  case wait => exact (exec_tick n s).trans ((if_pos hp).trans (if_neg (by omega)))
  case fault => exact (exec_tick n s).trans ((if_pos hp).trans ((if_pos (by omega)).trans (if_pos hc)))

/-- Settles O50: the two countdowns taken off one after the other are their sum taken off. -/
theorem ticksThatDoNotFireAddUp : Obligations.TicksThatDoNotFireAddUp := by
  intro m n s hp hlt
  have hm : (m : Int) < s.schedCountdown := by omega
  have hn : (n : Int) < s.schedCountdown - m := by omega
  have hsum : s.schedCountdown - ((m + n : Nat) : Int) = s.schedCountdown - m - n := by omega
  obtain ⟨-, first, -⟩ := tickAdvancesTheCountdown m s
  obtain ⟨-, second, -⟩ := tickAdvancesTheCountdown n
    { s with schedCountdown := s.schedCountdown - m, events := [], outcome := .ok none }
  obtain ⟨-, both, -⟩ := tickAdvancesTheCountdown (m + n) s
  refine ⟨_, first hp hm, ?_⟩
  rw [second hp hn, both hp hlt, hsum]

/-- Settles O51: RESET answers the reset state of the same parameters. -/
theorem resetLeavesTheResetState : Obligations.ResetLeavesTheResetState := fun tv s =>
  ⟨_, exec_reset tv s, fun r => State.resetTo_miReg tv s r, fun r => State.resetTo_viReg tv s r, rfl⟩

/-- Settles O52: by the cases of the two tables. -/
theorem televisionStandards : Obligations.TelevisionStandards := by
  refine ⟨fun p tv => ⟨fun h => ?_, fun h => ?_, fun h h' => ?_, fun h h' => ?_⟩, fun tv => ⟨rfl, rfl⟩⟩
  · exact ⟨if_pos h, if_pos h⟩
  · exact if_neg h
  · exact (if_neg h).trans (if_pos h')
  · exact (if_neg h).trans (if_neg h')

/-- Settles O53: power-on is the reset of itself, and its fields are the constants of construction. -/
theorem powerOnState : Obligations.PowerOnState :=
  ⟨rfl, rfl, rfl, State.resetTo_miReg referenceParams.tvNtsc State.reset,
    State.resetTo_viReg referenceParams.tvNtsc State.reset,
    rfl, rfl, rfl, rfl, rfl, rfl, rfl, rfl, rfl, rfl, rfl, rfl, rfl, rfl⟩

end Sys2Proof.Proofs
end
